-- ==== Sys2Proof/Word.lean ====
section
/-! DEFINITION. The fixed-width values of the core (spec 00_scope.md R7, R8): bytes, 32-bit words, the 64-bit length
counter and the 16-bit command word. Every operator on them is the `BitVec` one, which wraps modulo `2^w`. -/

namespace Sys2Proof

/-- A byte, an unsigned value 0..255 (R7). -/
abbrev Byte := BitVec 8

/-- A word, an unsigned value 0..2^32-1 (R7). -/
abbrev Word := BitVec 32

/-- The message length counter, in bits (10_state.md R25). -/
abbrev BitCount := BitVec 64

/-- One command word of the command port (30_encoding.md R80, R84). -/
abbrev CmdWord := BitVec 16

end Sys2Proof
end

