-- ==== Sys2Proof/Config.lean ====
section
/-! DEFINITION. What is fixed for this core: the six engines, the five operations, the sizes of 00_scope.md R5, and the
timing parameters that R6 and 70_reset_and_hazards.md R345 leave open. -/

namespace Sys2Proof

/-- The six engines (00_scope.md R2; 30_encoding.md R85). -/
inductive Engine
  | djb2 | md2 | md5 | sha1 | sha224 | sha256
  deriving DecidableEq, Repr

/-- The five operations (30_encoding.md R86). -/
inductive Op
  | init | absorb | finalize | rdig | rstat
  deriving DecidableEq, Repr

namespace Config

/-- Digest length in bytes (R5; 60_exceptions.md R304: 4, 16, 16, 20, 28, 32 for engines 0 to 5). -/
def digestBytes : Engine → Nat
  | .djb2 => 4
  | .md2 => 16
  | .md5 => 16
  | .sha1 => 20
  | .sha224 => 28
  | .sha256 => 32

/-- The number of rounds of the MD2 mixer (R5). -/
def md2Rounds : Nat := 18

/-- The number of MD5 steps (R5). -/
def md5Steps : Nat := 64

/-- The number of SHA-1 steps, and of words of its schedule (R5). -/
def sha1Steps : Nat := 80

/-- The number of SHA-2 steps, and of words of its schedule (R5). -/
def sha2Steps : Nat := 64

end Config

/-- The index of an engine in the tables of `Latency`. -/
def Engine.index : Engine → Fin 6
  | .djb2 => 0
  | .md2 => 1
  | .md5 => 2
  | .sha1 => 3
  | .sha224 => 4
  | .sha256 => 5

/-- The timing parameters (70_reset_and_hazards.md R345), each the number `L` of clock edges of R340.
UNVERIFIED values: the spec leaves them open (R6). -/
structure Latency where
  /-- `LAT_INIT`. -/
  init : Nat
  /-- `LAT_ABSORB`: an ABSORB that does not fill the block. -/
  absorb : Nat
  /-- `LAT_ABSORB_BLOCK(e)`, by engine number. -/
  absorbBlock : Vector Nat 6
  /-- `LAT_FINALIZE(e, n)`, by engine number and number `n` of compressions. -/
  finalize : Vector (Vector Nat 3) 6
  /-- `LAT_READ`: RDIG, RSTAT, and any faulting command. -/
  read : Nat
  deriving DecidableEq, Repr

namespace Latency

/-- Every parameter at its least value, 1 (R345 "integer ≥ 1"). -/
def unit : Latency :=
  { init := 1, absorb := 1, absorbBlock := Vector.replicate 6 1,
    finalize := Vector.replicate 6 (Vector.replicate 3 1), read := 1 }

/-- The constraint column of R345: every parameter is an integer ≥ 1. -/
def wf (l : Latency) : Bool :=
  decide (1 ≤ l.init) && decide (1 ≤ l.absorb) && l.absorbBlock.toList.all (1 ≤ ·) &&
    l.finalize.toList.all (fun row => row.toList.all (1 ≤ ·)) && decide (1 ≤ l.read)

end Latency

end Sys2Proof
end

