-- ==== Sys2Proof/Machine/Rom.lean ====
section
/-! DEFINITION. The constants of the core: the read-only tables ROM_S, ROM_K5, ROM_K1, ROM_K2 (20_memory.md R61 to R64,
which are never written, R79), the MD5 shift table, and the initial state words (10_state.md R37, R39 to R42). The spec
gives their values from the published algorithms; they are copied from its tables. -/

namespace Sys2Proof.Machine

/-- `ROM_S` by rows (42_md2.md R151): row `r` holds the sixteen bytes `ROM_S[0xr0] … ROM_S[0xrF]`, column `+0` leftmost,
so that each literal reads as the table's row does. -/
def romSRows : List (BitVec 128) :=
  [0x292E43C9A2D87C013D3654A1ECF00613,
   0x62A705F3C0C7738C98932BD9BC4C82CA,
   0x1E9B573CFDD4E01667426F188A17E512,
   0xBE4EC4D6DA9EDE49A0FBF58EBB2FEE7A,
   0xA968799115B2073F94C210890B225F21,
   0x807F5D9A5A903227353ECCE7BFF79703,
   0xFF1930B348A5B5D1D75E922AAC56AAC6,
   0x4FB838D296A47DB676FC6BE29C7404F1,
   0x459D705964718720865BCF65E62DA802,
   0x1B6025ADAEB0B9F61C46616934407E0F,
   0x5547A323DD51AF3AC35CF9CEBAC5EA26,
   0x2C530D6E85288409D3DFCDF441814D52,
   0x6ADC37C86CC1ABFA24E17B080CBDB14A,
   0x7888958BE363E86DE9CBD5FE3B001D39,
   0xF2EFB70E6658D0E4A67772F8EB754B0A,
   0x314450B48FED1F1ADB998D339F118314]

/-- `ROM_S[t]` (42_md2.md R151): column `t mod 16` of row `t div 16`. -/
def romS (t : Byte) : Byte :=
  (romSRows.getD (t.toNat / 16) 0).extractLsb' (8 * (15 - t.toNat % 16)) 8

/-- `ROM_K5` (44_md5.md R211), entries 0 to 15. -/
def romK5Part0 : List Word :=
    [0xD76AA478, 0xE8C7B756, 0x242070DB, 0xC1BDCEEE,
     0xF57C0FAF, 0x4787C62A, 0xA8304613, 0xFD469501,
     0x698098D8, 0x8B44F7AF, 0xFFFF5BB1, 0x895CD7BE,
     0x6B901122, 0xFD987193, 0xA679438E, 0x49B40821]

/-- `ROM_K5` (44_md5.md R211), entries 16 to 31. -/
def romK5Part1 : List Word :=
    [0xF61E2562, 0xC040B340, 0x265E5A51, 0xE9B6C7AA,
     0xD62F105D, 0x02441453, 0xD8A1E681, 0xE7D3FBC8,
     0x21E1CDE6, 0xC33707D6, 0xF4D50D87, 0x455A14ED,
     0xA9E3E905, 0xFCEFA3F8, 0x676F02D9, 0x8D2A4C8A]

/-- `ROM_K5` (44_md5.md R211), entries 32 to 47. -/
def romK5Part2 : List Word :=
    [0xFFFA3942, 0x8771F681, 0x6D9D6122, 0xFDE5380C,
     0xA4BEEA44, 0x4BDECFA9, 0xF6BB4B60, 0xBEBFBC70,
     0x289B7EC6, 0xEAA127FA, 0xD4EF3085, 0x04881D05,
     0xD9D4D039, 0xE6DB99E5, 0x1FA27CF8, 0xC4AC5665]

/-- `ROM_K5` (44_md5.md R211), entries 48 to 63. -/
def romK5Part3 : List Word :=
    [0xF4292244, 0x432AFF97, 0xAB9423A7, 0xFC93A039,
     0x655B59C3, 0x8F0CCC92, 0xFFEFF47D, 0x85845DD1,
     0x6FA87E4F, 0xFE2CE6E0, 0xA3014314, 0x4E0811A1,
     0xF7537E82, 0xBD3AF235, 0x2AD7D2BB, 0xEB86D391]

/-- `ROM_K5` (44_md5.md R211). -/
def romK5Table : List Word := romK5Part0 ++ romK5Part1 ++ romK5Part2 ++ romK5Part3

/-- `ROM_K5[i]`, for a step number `i` in 0..63 (20_memory.md R62). -/
def romK5 (i : Nat) : Word := romK5Table.getD i 0

/-- The rows of `SHIFT5` (44_md5.md R212), one for each round family FF, GG, HH, II. -/
def shift5Rows : List (List Nat) := [[7, 12, 17, 22], [5, 9, 14, 20], [4, 11, 16, 23], [6, 10, 15, 21]]

/-- `SHIFT5[i] = row(i div 16)[i mod 4]` (44_md5.md R212). -/
def shift5 (i : Nat) : Nat := (shift5Rows.getD (i / 16) []).getD (i % 4) 0

/-- `ROM_K1`, indexed by the round family (45_sha1.md R241; 20_memory.md R63). -/
def romK1 (family : Nat) : Word := [0x5A827999, 0x6ED9EBA1, 0x8F1BBCDC, 0xCA62C1D6].getD family 0

/-- `ROM_K2` (46_sha2.md R266), entries 0 to 15. -/
def romK2Part0 : List Word :=
    [0x428A2F98, 0x71374491, 0xB5C0FBCF, 0xE9B5DBA5,
     0x3956C25B, 0x59F111F1, 0x923F82A4, 0xAB1C5ED5,
     0xD807AA98, 0x12835B01, 0x243185BE, 0x550C7DC3,
     0x72BE5D74, 0x80DEB1FE, 0x9BDC06A7, 0xC19BF174]

/-- `ROM_K2` (46_sha2.md R266), entries 16 to 31. -/
def romK2Part1 : List Word :=
    [0xE49B69C1, 0xEFBE4786, 0x0FC19DC6, 0x240CA1CC,
     0x2DE92C6F, 0x4A7484AA, 0x5CB0A9DC, 0x76F988DA,
     0x983E5152, 0xA831C66D, 0xB00327C8, 0xBF597FC7,
     0xC6E00BF3, 0xD5A79147, 0x06CA6351, 0x14292967]

/-- `ROM_K2` (46_sha2.md R266), entries 32 to 47. -/
def romK2Part2 : List Word :=
    [0x27B70A85, 0x2E1B2138, 0x4D2C6DFC, 0x53380D13,
     0x650A7354, 0x766A0ABB, 0x81C2C92E, 0x92722C85,
     0xA2BFE8A1, 0xA81A664B, 0xC24B8B70, 0xC76C51A3,
     0xD192E819, 0xD6990624, 0xF40E3585, 0x106AA070]

/-- `ROM_K2` (46_sha2.md R266), entries 48 to 63. -/
def romK2Part3 : List Word :=
    [0x19A4C116, 0x1E376C08, 0x2748774C, 0x34B0BCB5,
     0x391C0CB3, 0x4ED8AA4A, 0x5B9CCA4F, 0x682E6FF3,
     0x748F82EE, 0x78A5636F, 0x84C87814, 0x8CC70208,
     0x90BEFFFA, 0xA4506CEB, 0xBEF9A3F7, 0xC67178F2]

/-- `ROM_K2` (46_sha2.md R266). -/
def romK2Table : List Word := romK2Part0 ++ romK2Part1 ++ romK2Part2 ++ romK2Part3

/-- `ROM_K2[i]`, for a step number `i` in 0..63 (20_memory.md R64). -/
def romK2 (i : Nat) : Word := romK2Table.getD i 0

/-- The djb2 initial value (10_state.md R37). -/
def ivDjb2 : Word := 5381

/-- `IV_MD5` (10_state.md R39). -/
def ivMd5 : Vector Word 4 :=
  #v[0x67452301, 0xEFCDAB89, 0x98BADCFE, 0x10325476]

/-- `IV_SHA1` (10_state.md R40). -/
def ivSha1 : Vector Word 5 :=
  #v[0x67452301, 0xEFCDAB89, 0x98BADCFE, 0x10325476,
     0xC3D2E1F0]

/-- `IV_SHA224` (10_state.md R41). -/
def ivSha224 : Vector Word 8 :=
  #v[0xC1059ED8, 0x367CD507, 0x3070DD17, 0xF70E5939,
     0xFFC00B31, 0x68581511, 0x64F98FA7, 0xBEFA4FA4]

/-- `IV_SHA256` (10_state.md R42). -/
def ivSha256 : Vector Word 8 :=
  #v[0x6A09E667, 0xBB67AE85, 0x3C6EF372, 0xA54FF53A,
     0x510E527F, 0x9B05688C, 0x1F83D9AB, 0x5BE0CD19]

end Sys2Proof.Machine
end

