-- ==== Sys2Proof/Machine/Context.lean ====
section
/-! DEFINITION. The six engine contexts (10_state.md R22 to R27) and their initial states `Init(E)` (R37 to R43). The four
engines of the shared streaming shape have one structure, with the number of state words as its parameter. -/

namespace Sys2Proof.Machine

/-- The block of MD5, SHA-1 and SHA-2: 64 bytes (00_scope.md R5). -/
abbrev Block := Vector Byte 64

/-- The block of MD2: 16 bytes (R5). -/
abbrev Md2Block := Vector Byte 16

/-- The MD2 working state: 48 bytes (R5). -/
abbrev Md2Work := Vector Byte 48

/-- `CTX[DJB2]` (R23). -/
structure Djb2Ctx where
  /-- The accumulator. -/
  h : Word
  done : Bool
  deriving DecidableEq, Repr

/-- `CTX[MD2]` (R24). -/
structure Md2Ctx where
  /-- Working state: chaining value and digest in 0..15, block in 16..31, block ⊕ chaining value in 32..47 (90_conflicts.md C1). -/
  x : Md2Work
  /-- Running checksum. -/
  c : Md2Block
  /-- Block buffer. -/
  b : Md2Block
  /-- Number of bytes held in `b`; 4 bits, so below 16 by its type (R28). -/
  fill : Fin 16
  done : Bool
  deriving DecidableEq, Repr

/-- The context of MD5 (`n = 4`, R25), SHA-1 (`n = 5`, R26), SHA-224 and SHA-256 (`n = 8`, R27). -/
structure MdCtx (n : Nat) where
  /-- State words. -/
  h : Vector Word n
  /-- Block buffer. -/
  b : Block
  /-- Number of bytes held in `b`; 6 bits, so below 64 by its type (R28). -/
  fill : Fin 64
  /-- Count of message bits already compressed (90_conflicts.md C6: bits). -/
  len : BitCount
  done : Bool
  deriving DecidableEq, Repr

/-- `Init(DJB2)` (R37, R43). -/
def initDjb2 : Djb2Ctx := { h := ivDjb2, done := false }

/-- `Init(MD2)` (R38, R43). -/
def initMd2 : Md2Ctx :=
  { x := Vector.replicate 48 0, c := Vector.replicate 16 0, b := Vector.replicate 16 0, fill := 0, done := false }

/-- `Init(E)` of the shared shape, from the engine's initial words (R43; 43_md_shape.md R190). -/
def initMd {n : Nat} (iv : Vector Word n) : MdCtx n :=
  { h := iv, b := Vector.replicate 64 0, fill := 0, len := 0, done := false }

/-- `Init(MD5)` (R39, R43). -/
def initMd5 : MdCtx 4 := initMd ivMd5

/-- `Init(SHA1)` (R40, R43). -/
def initSha1 : MdCtx 5 := initMd ivSha1

/-- `Init(SHA224)` (R41, R43). -/
def initSha224 : MdCtx 8 := initMd ivSha224

/-- `Init(SHA256)` (R42, R43). -/
def initSha256 : MdCtx 8 := initMd ivSha256

end Sys2Proof.Machine
end

