-- ==== Sys2Proof/Machine/Operands.lean ====
section
/-! DEFINITION. Operands and byte order: how the field `IMM8` is used (30_encoding.md R88), how block bytes become
message words, how the length trailer becomes block bytes, and how state words become digest bytes (20_memory.md R67 to
R71). Byte order is decided here and nowhere else. -/

namespace Sys2Proof.Machine

/-- `zext_32` of the absorbed byte (30_encoding.md R88): never sign-extended. -/
def operandWord (b : Byte) : Word := b.setWidth 32

/-- The RDIG byte index `i = cmd[7:0]`, 0..255 (30_encoding.md R88). -/
def operandIndex (i : Byte) : Nat := i.toNat

/-- `LE32(B, 4k)` (20_memory.md R67): byte `B[4k]` is bits 7:0. -/
def le32 (b : Block) (k : Fin 16) : Word := b[4 * k.val + 3] ++ b[4 * k.val + 2] ++ b[4 * k.val + 1] ++ b[4 * k.val]

/-- `BE32(B, 4k)` (20_memory.md R68): byte `B[4k]` is bits 31:24. -/
def be32 (b : Block) (k : Fin 16) : Word := b[4 * k.val] ++ b[4 * k.val + 1] ++ b[4 * k.val + 2] ++ b[4 * k.val + 3]

/-- The sixteen little-endian message words of a block (R67). -/
def messageLE (b : Block) : Vector Word 16 := Vector.ofFn (le32 b)

/-- The sixteen big-endian message words of a block (R68). -/
def messageBE (b : Block) : Vector Word 16 := Vector.ofFn (be32 b)

/-- `PutLE64(B, 56, v)` (20_memory.md R69): `B[56+k] ← v[8k+7:8k]`. -/
def putLE64 (b : Block) (v : BitCount) : Block :=
  Vector.ofFn fun j => if 56 ≤ j.val then v.extractLsb' (8 * (j.val - 56)) 8 else b[j.val]

/-- `PutBE64(B, 56, v)` (20_memory.md R69): `B[56+k] ← v[63-8k:56-8k]`. -/
def putBE64 (b : Block) (v : BitCount) : Block :=
  Vector.ofFn fun j => if 56 ≤ j.val then v.extractLsb' (56 - 8 * (j.val - 56)) 8 else b[j.val]

/-- The four bytes of a word, least significant first (20_memory.md R70, MD5). -/
def wordBytesLE (w : Word) : List Byte :=
  [w.extractLsb' 0 8, w.extractLsb' 8 8, w.extractLsb' 16 8, w.extractLsb' 24 8]

/-- The four bytes of a word, most significant first (20_memory.md R70, SHA-1, SHA-2 and djb2). -/
def wordBytesBE (w : Word) : List Byte :=
  [w.extractLsb' 24 8, w.extractLsb' 16 8, w.extractLsb' 8 8, w.extractLsb' 0 8]

/-- `Digest_E(H)` of the first `words` state words, little-endian (43_md_shape.md R198). -/
def digestLE {n : Nat} (words : Nat) (h : Vector Word n) : List Byte := (h.toList.take words).flatMap wordBytesLE

/-- `Digest_E(H)` of the first `words` state words, big-endian (43_md_shape.md R198). -/
def digestBE {n : Nat} (words : Nat) (h : Vector Word n) : List Byte := (h.toList.take words).flatMap wordBytesBE

/-- `DJB2Digest(H)` (41_djb2.md R135). -/
def digestDjb2 (h : Word) : List Byte := wordBytesBE h

/-- `MD2Digest(X)` (42_md2.md R165). -/
def digestMd2 (x : Md2Work) : List Byte := x.toList.take 16

end Sys2Proof.Machine
end

