-- ==== Sys2Proof/Syntax.lean ====
section
/-! DEFINITION. The abstract syntax: one constructor for each row of spec/opcode_table.json, in the table's order
(30_encoding.md R93). `b` is the ABSORB data byte, `i` the RDIG byte index; both are the field `IMM8` (R88). -/

namespace Sys2Proof

/-- The thirty commands of the core (30_encoding.md R93). -/
inductive Instr
  | djb2Init
  | djb2Absorb (b : Byte)
  | djb2Finalize
  | djb2Rdig (i : Byte)
  | djb2Rstat
  | md2Init
  | md2Absorb (b : Byte)
  | md2Finalize
  | md2Rdig (i : Byte)
  | md2Rstat
  | md5Init
  | md5Absorb (b : Byte)
  | md5Finalize
  | md5Rdig (i : Byte)
  | md5Rstat
  | sha1Init
  | sha1Absorb (b : Byte)
  | sha1Finalize
  | sha1Rdig (i : Byte)
  | sha1Rstat
  | sha224Init
  | sha224Absorb (b : Byte)
  | sha224Finalize
  | sha224Rdig (i : Byte)
  | sha224Rstat
  | sha256Init
  | sha256Absorb (b : Byte)
  | sha256Finalize
  | sha256Rdig (i : Byte)
  | sha256Rstat
  deriving DecidableEq, Repr

end Sys2Proof
end

