-- ==== Sys2Proof/WellFormed.lean ====
section
/-! DEFINITION. Well-formedness. The one instruction format is `CMD16` (30_encoding.md R84). A value of `Instr` has no
operand outside the format (its operand is a byte, R306), so the checks stand on the four fields of a raw command: they
are the four clauses of `Legal` in R90. `Reserved` names the clause a raw command breaks; the four names are the four
disjoint spaces of R94. -/

namespace Sys2Proof

/-- The four fields of the command format (R84). -/
structure Cmd16 where
  /-- `ENG`, bits 15:13. -/
  eng : BitVec 3
  /-- `OP`, bits 12:10. -/
  op : BitVec 3
  /-- `RSV`, bits 9:8. -/
  rsv : BitVec 2
  /-- `IMM8`, bits 7:0. -/
  imm8 : Byte
  deriving DecidableEq, Repr

/-- Why a command word is reserved (R94). -/
inductive Reserved
  /-- `ENG` is 6 or 7. -/
  | engine
  /-- `OP` is 5, 6 or 7. -/
  | operation
  /-- `RSV` is not `00`. -/
  | rsvField
  /-- `IMM8` is not `0x00` on INIT, FINALIZE or RSTAT. -/
  | immField
  deriving DecidableEq, Repr

namespace Cmd16

/-- R90, first clause: the engine is one of 0..5. -/
def engineOk (c : Cmd16) : Bool := decide (c.eng ≤ 5)

/-- R90, second clause: the operation is one of 0..4. -/
def opOk (c : Cmd16) : Bool := decide (c.op ≤ 4)

/-- R90, third clause: `RSV = 00`. -/
def rsvOk (c : Cmd16) : Bool := decide (c.rsv = 0)

/-- R90, fourth clause: only ABSORB (1) and RDIG (3) have an operand. -/
def immOk (c : Cmd16) : Bool := decide (c.op = 1) || decide (c.op = 3) || decide (c.imm8 = 0)

/-- `Legal` of R90 on the fields of a word. -/
def wf (c : Cmd16) : Bool := c.engineOk && c.opOk && c.rsvOk && c.immOk

end Cmd16

end Sys2Proof
end

