-- ==== Sys2Proof/Decode.lean ====
section
/-! DEFINITION. The decoder (30_encoding.md R84 to R91, R93), total on all 65536 words, and the encoder written from the
same map. Field extraction, engine numbers (R85) and operation numbers (R86) are here and nowhere else. -/

namespace Sys2Proof

/-- The fields of a command word (R84). -/
def Cmd16.ofWord (w : CmdWord) : Cmd16 :=
  { eng := w.extractLsb' 13 3, op := w.extractLsb' 10 3, rsv := w.extractLsb' 8 2, imm8 := w.extractLsb' 0 8 }

/-- `{ENG, OP, RSV, IMM8}` (R84). -/
def Cmd16.toWord (c : Cmd16) : CmdWord := c.eng ++ c.op ++ c.rsv ++ c.imm8

/-- `Legal(w)` (R90). -/
def legal (w : CmdWord) : Bool := (Cmd16.ofWord w).wf

/-- The `OP` field of any word, legal or not (R96 reads it). -/
def opField (w : CmdWord) : BitVec 3 := (Cmd16.ofWord w).op

/-- Engine numbers (R85); 6 and 7 are reserved. -/
def Engine.ofCode (c : BitVec 3) : Option Engine :=
  match c.toNat with
  | 0 => some .djb2
  | 1 => some .md2
  | 2 => some .md5
  | 3 => some .sha1
  | 4 => some .sha224
  | 5 => some .sha256
  | _ => none

/-- Engine numbers (R85), the other way. -/
def Engine.code : Engine → BitVec 3
  | .djb2 => 0
  | .md2 => 1
  | .md5 => 2
  | .sha1 => 3
  | .sha224 => 4
  | .sha256 => 5

/-- Operation numbers (R86); 5, 6 and 7 are reserved. -/
def Op.ofCode (c : BitVec 3) : Option Op :=
  match c.toNat with
  | 0 => some .init
  | 1 => some .absorb
  | 2 => some .finalize
  | 3 => some .rdig
  | 4 => some .rstat
  | _ => none

/-- Operation numbers (R86), the other way. -/
def Op.code : Op → BitVec 3
  | .init => 0
  | .absorb => 1
  | .finalize => 2
  | .rdig => 3
  | .rstat => 4

/-- Whether an operation reads `IMM8` as an operand (R88). -/
def Op.hasOperand : Op → Bool
  | .absorb => true
  | .rdig => true
  | .init => false
  | .finalize => false
  | .rstat => false

/-- The command map of R93: the instruction of an engine, an operation and the field `IMM8`. -/
def Instr.of : Engine → Op → Byte → Instr
  | .djb2, .init, _ => .djb2Init
  | .djb2, .absorb, d => .djb2Absorb d
  | .djb2, .finalize, _ => .djb2Finalize
  | .djb2, .rdig, d => .djb2Rdig d
  | .djb2, .rstat, _ => .djb2Rstat
  | .md2, .init, _ => .md2Init
  | .md2, .absorb, d => .md2Absorb d
  | .md2, .finalize, _ => .md2Finalize
  | .md2, .rdig, d => .md2Rdig d
  | .md2, .rstat, _ => .md2Rstat
  | .md5, .init, _ => .md5Init
  | .md5, .absorb, d => .md5Absorb d
  | .md5, .finalize, _ => .md5Finalize
  | .md5, .rdig, d => .md5Rdig d
  | .md5, .rstat, _ => .md5Rstat
  | .sha1, .init, _ => .sha1Init
  | .sha1, .absorb, d => .sha1Absorb d
  | .sha1, .finalize, _ => .sha1Finalize
  | .sha1, .rdig, d => .sha1Rdig d
  | .sha1, .rstat, _ => .sha1Rstat
  | .sha224, .init, _ => .sha224Init
  | .sha224, .absorb, d => .sha224Absorb d
  | .sha224, .finalize, _ => .sha224Finalize
  | .sha224, .rdig, d => .sha224Rdig d
  | .sha224, .rstat, _ => .sha224Rstat
  | .sha256, .init, _ => .sha256Init
  | .sha256, .absorb, d => .sha256Absorb d
  | .sha256, .finalize, _ => .sha256Finalize
  | .sha256, .rdig, d => .sha256Rdig d
  | .sha256, .rstat, _ => .sha256Rstat

/-- The command map of R93 read from the instruction: its engine, its operation and its field `IMM8`. -/
def Instr.parts : Instr → Engine × Op × Byte
  | .djb2Init => (.djb2, .init, 0)
  | .djb2Absorb d => (.djb2, .absorb, d)
  | .djb2Finalize => (.djb2, .finalize, 0)
  | .djb2Rdig d => (.djb2, .rdig, d)
  | .djb2Rstat => (.djb2, .rstat, 0)
  | .md2Init => (.md2, .init, 0)
  | .md2Absorb d => (.md2, .absorb, d)
  | .md2Finalize => (.md2, .finalize, 0)
  | .md2Rdig d => (.md2, .rdig, d)
  | .md2Rstat => (.md2, .rstat, 0)
  | .md5Init => (.md5, .init, 0)
  | .md5Absorb d => (.md5, .absorb, d)
  | .md5Finalize => (.md5, .finalize, 0)
  | .md5Rdig d => (.md5, .rdig, d)
  | .md5Rstat => (.md5, .rstat, 0)
  | .sha1Init => (.sha1, .init, 0)
  | .sha1Absorb d => (.sha1, .absorb, d)
  | .sha1Finalize => (.sha1, .finalize, 0)
  | .sha1Rdig d => (.sha1, .rdig, d)
  | .sha1Rstat => (.sha1, .rstat, 0)
  | .sha224Init => (.sha224, .init, 0)
  | .sha224Absorb d => (.sha224, .absorb, d)
  | .sha224Finalize => (.sha224, .finalize, 0)
  | .sha224Rdig d => (.sha224, .rdig, d)
  | .sha224Rstat => (.sha224, .rstat, 0)
  | .sha256Init => (.sha256, .init, 0)
  | .sha256Absorb d => (.sha256, .absorb, d)
  | .sha256Finalize => (.sha256, .finalize, 0)
  | .sha256Rdig d => (.sha256, .rdig, d)
  | .sha256Rstat => (.sha256, .rstat, 0)

/-- The engine a command selects. -/
def Instr.engine (i : Instr) : Engine := i.parts.1

/-- The operation a command performs. -/
def Instr.op (i : Instr) : Op := i.parts.2.1

/-- The field `IMM8` of a command (`0x00` where it has no operand, R88). -/
def Instr.imm8 (i : Instr) : Byte := i.parts.2.2

/-- `Decode(w)` (R91): an instruction, or the name of the reserved space of R94 the word lies in. -/
def decode (w : CmdWord) : Except Reserved Instr :=
  let c := Cmd16.ofWord w
  match Engine.ofCode c.eng with
  | none => .error .engine
  | some e =>
    match Op.ofCode c.op with
    | none => .error .operation
    | some o =>
      if c.rsv ≠ 0 then .error .rsvField
      else if !o.hasOperand && c.imm8 ≠ 0 then .error .immField
      else .ok (Instr.of e o c.imm8)

/-- The fields of an instruction (R84, R87, R93). -/
def Instr.fields (i : Instr) : Cmd16 :=
  { eng := i.engine.code, op := i.op.code, rsv := 0, imm8 := i.imm8 }

/-- The command word of an instruction (R93). -/
def encode (i : Instr) : CmdWord := i.fields.toWord

/-- The decoder on a word numbered as spec/opcode_table.json numbers it: every row is one 16-bit word (R89), bit 0 the
least significant, and the bits at and above `nbits` are 0. -/
def decodeTableWord (nbits w : Nat) : Option Instr :=
  match decode (BitVec.ofNat 16 (w % 2 ^ nbits)) with
  | .ok i => some i
  | .error _ => none

end Sys2Proof
end

