-- ==== Sys2Proof/Machine/State.lean ====
section
/-! DEFINITION. The state of the core (10_state.md R22) with the hand-shake state that 70_reset_and_hazards.md R331 and
R340 imply, the timing parameters, and what the host drives; its value after reset (R44); and the reasons a step could
stop, of which the spec gives none (60_exceptions.md R311). -/

namespace Sys2Proof.Machine

/-- The four fault kinds of the core (60_exceptions.md R305). A fault is an ordinary next state, never a stop (R311). -/
inductive FaultKind
  | illegal | spent | notDone | range
  deriving DecidableEq, Repr

/-- One response `(data, err)` (10_state.md R32). -/
structure Response where
  data : Byte
  err : Bool
  deriving DecidableEq, Repr

/-- A command in execution (70_reset_and_hazards.md R340): its word, and how many edges it still takes, the last of them
being the one on which its writes happen. -/
structure Running where
  word : CmdWord
  left : Nat
  deriving DecidableEq, Repr

/-- What the host drives on one rising edge of `clk` (30_encoding.md R80, R81, R83). -/
structure PortIn where
  rst : Bool
  cmdValid : Bool
  cmd : CmdWord
  rspReady : Bool
  deriving DecidableEq, Repr

/-- The state of the core. -/
structure State where
  /-- `CTX[DJB2]` (R23). -/
  djb2 : Djb2Ctx
  /-- `CTX[MD2]` (R24). -/
  md2 : Md2Ctx
  /-- `CTX[MD5]` (R25). -/
  md5 : MdCtx 4
  /-- `CTX[SHA1]` (R26). -/
  sha1 : MdCtx 5
  /-- `CTX[SHA224]` (R27). -/
  sha224 : MdCtx 8
  /-- `CTX[SHA256]` (R27). -/
  sha256 : MdCtx 8
  /-- `ERR`, the sticky fault bits ILLEGAL, SPENT, NOTDONE, RANGE from bit 0 up (R30). -/
  err : BitVec 4
  /-- `ERRCMD`, the word of the first fault since reset (R31). -/
  errCmd : CmdWord
  /-- `RSPQ`, the response holding register (R32). -/
  rspq : Option Response
  /-- The command in execution (R340). -/
  running : Option Running
  /-- Set by reset, cleared by the first edge with `rst = 0`, on which no command is accepted yet (R331, R334).
  DEDUCED, log entry 3. -/
  settling : Bool
  /-- The timing parameters (R6, R345), fixed for the machine: no step writes them. DESIGN CHOICE, log entry 2. -/
  lat : Latency
  /-- What the host drives on the coming edges, the next one first; an edge past its end is an idle one.
  DESIGN CHOICE, log entry 1. -/
  port : List PortIn
  deriving DecidableEq, Repr

/-- The faults that stop the machine: none. Every fault of the spec leaves the core running (60_exceptions.md R311), so
this type has no constructor and no step can answer `fault`. Safe: nothing is cut off. -/
inductive Fault
  deriving DecidableEq, Repr

/-- Why an instruction has no meaning in the model. -/
inductive Refusal
  /-- Raised by an arm of `exec` whose instruction has no meaning yet; no arm does so now. Safe: the run stops. -/
  | notModelled (mnemonic : String)
  deriving DecidableEq, Repr

/-- The machine right after reset: the table of 10_state.md R44 (70_reset_and_hazards.md R330), nothing executing, the
settling edge of R331 still to come. The timing parameters and the host's inputs are not the spec's (log entries 1, 2). -/
def State.reset : State :=
  { djb2 := initDjb2, md2 := initMd2, md5 := initMd5, sha1 := initSha1, sha224 := initSha224, sha256 := initSha256,
    err := 0, errCmd := 0, rspq := none,
    running := none, settling := true, lat := Latency.unit, port := [] }

end Sys2Proof.Machine
end

