-- ==== Sys2Proof/Machine/Flags.lean ====
section
/-! DEFINITION. Every flag of the core: the per-engine `DONE` bits (10_state.md R29), the fault bits of `ERR` (R30), the
status byte (47_status.md R295), and the checks that read them (60_exceptions.md R302 to R304, R308). There are no
arithmetic flags (40_primitives.md R122). -/

namespace Sys2Proof.Machine

/-- The cause code of a fault kind, which is its `ERR` bit (60_exceptions.md R305). -/
def FaultKind.code : FaultKind → Nat
  | .illegal => 0
  | .spent => 1
  | .notDone => 2
  | .range => 3

/-- `ERR` with the bit of kind `k` set, the others unchanged (60_exceptions.md R300). -/
def setErrBit (err : BitVec 4) (k : FaultKind) : BitVec 4 := err ||| 1#4 <<< k.code

/-- `CTX[e].DONE` (10_state.md R29). -/
def State.done (s : State) : Engine → Bool
  | .djb2 => s.djb2.done
  | .md2 => s.md2.done
  | .md5 => s.md5.done
  | .sha1 => s.sha1.done
  | .sha224 => s.sha224.done
  | .sha256 => s.sha256.done

/-- `Status(e) = {0b000, ERR[3:0], CTX[e].DONE}` (47_status.md R295). -/
def status (s : State) (e : Engine) : Byte := 0#3 ++ s.err ++ BitVec.ofBool (s.done e)

/-- The check of ABSORB, and of FINALIZE on every engine but djb2 (60_exceptions.md R302). -/
def spentFault (done : Bool) : Option FaultKind := if done then some .spent else none

/-- The checks of RDIG in their order (60_exceptions.md R303, R304, R308), for a digest of `n` bytes. -/
def rdigFault (done : Bool) (n : Nat) (i : Nat) : Option FaultKind :=
  if !done then some .notDone else if n ≤ i then some .range else none

end Sys2Proof.Machine
end

