-- ==== Sys2Proof/Machine/Ops.lean ====
section
/-! DEFINITION. The named operations on the state: writing one context, the response register, taking a fault
(60_exceptions.md R300), and reset (70_reset_and_hazards.md R330). There is no return from a fault: a fault saves nothing
to restore (60_exceptions.md R312), and recovery is by INIT (R313). -/

namespace Sys2Proof.Machine

/-- Write `CTX[DJB2]`. -/
def State.setDjb2 (s : State) (c : Djb2Ctx) : State := { s with djb2 := c }

/-- Write `CTX[MD2]`. -/
def State.setMd2 (s : State) (c : Md2Ctx) : State := { s with md2 := c }

/-- Write `CTX[MD5]`. -/
def State.setMd5 (s : State) (c : MdCtx 4) : State := { s with md5 := c }

/-- Write `CTX[SHA1]`. -/
def State.setSha1 (s : State) (c : MdCtx 5) : State := { s with sha1 := c }

/-- Write `CTX[SHA224]`. -/
def State.setSha224 (s : State) (c : MdCtx 8) : State := { s with sha224 := c }

/-- Write `CTX[SHA256]`. -/
def State.setSha256 (s : State) (c : MdCtx 8) : State := { s with sha256 := c }

/-- `Respond(data, err)` (30_encoding.md R95). -/
def State.respond (s : State) (data : Byte) (err : Bool) : State := { s with rspq := some { data := data, err := err } }

/-- The response is taken: `RSPQ` is empty again (30_encoding.md R83). -/
def State.takeResponse (s : State) : State := { s with rspq := none }

/-- Record a fault: `ERRCMD` if it is the first since reset, then its bit of `ERR` (60_exceptions.md R300). -/
def State.recordFault (s : State) (k : FaultKind) (w : CmdWord) : State :=
  { s with errCmd := if s.err = 0 then w else s.errCmd, err := setErrBit s.err k }

/-- Start a command that takes `left` more edges, or (with `none`) leave none in execution (70_reset_and_hazards.md R340). -/
def State.setRunning (s : State) (r : Option Running) : State := { s with running := r }

/-- The settling edge is over (70_reset_and_hazards.md R331). -/
def State.settled (s : State) : State := { s with settling := false }

/-- What the host drives from the next edge on. -/
def State.setPort (s : State) (p : List PortIn) : State := { s with port := p }

/-- The words that get a response: the `OP` field is 3 or 4, legal or not (30_encoding.md R96). -/
def responds (w : CmdWord) : Bool := decide (opField w = 3) || decide (opField w = 4)

/-- `raise Fault(k)` by the command word `w` (60_exceptions.md R300). No context is written (R307). -/
def takeFault (k : FaultKind) (w : CmdWord) (s : State) : State :=
  if responds w then (s.recordFault k w).respond 0 true else s.recordFault k w

/-- The end of a command of word `w` begun in `s`: the fault its checks found, or else its own effect, the state `effect`;
every check precedes every write (60_exceptions.md R307). -/
def complete (check : Option FaultKind) (w : CmdWord) (s effect : State) : Host.Outcome State Fault Refusal :=
  match check with
  | some k => .next (takeFault k w s)
  | none => .next effect

/-- A rising edge with `rst = 1` (70_reset_and_hazards.md R330): every register has its reset value, a command in
execution is abandoned, no response is left. The timing parameters and the host's own inputs are no registers. -/
def State.resetEdge (s : State) : State := { State.reset with lat := s.lat, port := s.port }

end Sys2Proof.Machine
end

