-- ==== Sys2Proof/Machine/Djb2.lean ====
section
/-! DEFINITION. The djb2 engine (41_djb2.md): one accumulator, no block, no padding. -/

namespace Sys2Proof.Machine

/-- One ABSORB step, `H * 33 + zext_32(b)` modulo 2^32 (41_djb2.md R131). -/
def djb2Step (h : Word) (b : Byte) : Word := h * 33 + operandWord b

/-- `djb2.init` (R130). -/
def execDjb2Init (s : State) : Host.Outcome State Fault Refusal :=
  .next (s.setDjb2 initDjb2)

/-- `djb2.absorb b` (R131). -/
def execDjb2Absorb (b : Byte) (s : State) : Host.Outcome State Fault Refusal :=
  complete (spentFault s.djb2.done) (encode (.djb2Absorb b)) s
    (s.setDjb2 { s.djb2 with h := djb2Step s.djb2.h b })

/-- `djb2.finalize` (R133): `H` is not changed, and a second FINALIZE is no fault (90_conflicts.md C9). -/
def execDjb2Finalize (s : State) : Host.Outcome State Fault Refusal :=
  .next (s.setDjb2 { s.djb2 with done := true })

/-- `djb2.rdig i` (R136). -/
def execDjb2Rdig (i : Byte) (s : State) : Host.Outcome State Fault Refusal :=
  complete (rdigFault s.djb2.done (Config.digestBytes .djb2) (operandIndex i)) (encode (.djb2Rdig i)) s
    (s.respond ((digestDjb2 s.djb2.h).getD (operandIndex i) 0) false)

end Sys2Proof.Machine
end

