-- ==== Sys2Proof/Machine/Md2.lean ====
section
/-! DEFINITION. The MD2 compression core and engine (42_md2.md): the load, mix and checksum stages (R153, R154, R156),
the transform (R158), and the four MD2 commands. -/

namespace Sys2Proof.Machine

/-- The load stage (R153; 90_conflicts.md C1, C2): the block into `X[16..31]`, block ⊕ chaining value into `X[32..47]`. -/
def md2Load (x : Md2Work) (m : Md2Block) : Md2Work :=
  Vector.ofFn fun k =>
    if h₁ : k.val < 16 then x[k.val]
    else if h₂ : k.val < 32 then m[k.val - 16]
    else m[k.val - 32] ^^^ x[k.val - 32]

/-- The inner loop of the mixer over the bytes in index order, from the rolling scalar `t` (R154): each byte is replaced
by itself ⊕ `ROM_S[t]` and becomes the next `t`. Answers the new bytes and the last `t`. -/
def mixBytes : Byte → List Byte → List Byte × Byte
  | t, [] => ([], t)
  | t, x :: xs =>
    let y := x ^^^ romS t
    let rest := mixBytes y xs
    (y :: rest.1, rest.2)

theorem mixBytes_length (t : Byte) (xs : List Byte) : (mixBytes t xs).1.length = xs.length := by
  induction xs generalizing t with
  | nil => rfl
  | cons x xs ih => simp [mixBytes, ih]

/-- Round `r` of the mixer: one pass, then `t ← (t + r) mod 256` with the 0-based round index (R154, R155). -/
def mixRound (st : Md2Work × Byte) (r : Nat) : Md2Work × Byte :=
  let p := mixBytes st.2 st.1.toList
  (⟨p.1.toArray, by simp [p, mixBytes_length]⟩, p.2 + BitVec.ofNat 8 r)

/-- The mix stage: 18 rounds from `t = 0` (R154); the last `t` is discarded. -/
def md2Mix (x : Md2Work) : Md2Work := ((List.range Config.md2Rounds).foldl mixRound (x, 0)).1

/-- The checksum loop over the block bytes and the checksum bytes in index order, from the chain byte `l` (R156): the
updated checksum byte is the next `l`. -/
def checksumBytes : Byte → List Byte → List Byte → List Byte
  | l, m :: ms, c :: cs =>
    let d := c ^^^ romS (m ^^^ l)
    d :: checksumBytes d ms cs
  | _, _, _ => []

theorem checksumBytes_length (l : Byte) (ms cs : List Byte) :
    (checksumBytes l ms cs).length = min ms.length cs.length := by
  induction ms generalizing l cs with
  | nil => simp [checksumBytes]
  | cons m ms ih => cases cs with
    | nil => simp [checksumBytes]
    | cons c cs => simp [checksumBytes, ih]

/-- The checksum stage (R156), seeded from `C[15]`. -/
def md2Checksum (sum m : Md2Block) : Md2Block :=
  ⟨(checksumBytes sum[15] m.toList sum.toList).toArray, by simp [checksumBytes_length]⟩

/-- `MD2Transform(X, C, M)` (R158). -/
def md2Transform (x : Md2Work) (c m : Md2Block) : Md2Work × Md2Block :=
  (md2Mix (md2Load x m), md2Checksum c m)

/-- The pad block (R161, R162): `P = 16 - FILL` copies of the byte `P` at `FILL..15`. -/
def md2Pad (fill : Fin 16) (b : Md2Block) : Md2Block :=
  Vector.ofFn fun j => if fill.val ≤ j.val then BitVec.ofNat 8 (16 - fill.val) else b[j.val]

/-- The context after ABSORB of `d` (R160). -/
def md2Absorb (d : Byte) (c : Md2Ctx) : Md2Ctx :=
  let b := c.b.set c.fill d
  if h : c.fill.val + 1 = 16 then
    let t := md2Transform c.x c.c b
    { x := t.1, c := t.2, b := b, fill := 0, done := c.done }
  else { c with b := b, fill := ⟨c.fill.val + 1, by omega⟩ }

/-- The context after FINALIZE (R161): the pad block, then the block that is a copy of the checksum (R163). -/
def md2Finalize (c : Md2Ctx) : Md2Ctx :=
  let t := md2Transform c.x c.c (md2Pad c.fill c.b)
  let u := md2Transform t.1 t.2 t.2
  { x := u.1, c := u.2, b := t.2, fill := 0, done := true }

/-- `md2.init` (R159). -/
def execMd2Init (s : State) : Host.Outcome State Fault Refusal :=
  .next (s.setMd2 initMd2)

/-- `md2.absorb b` (R160). -/
def execMd2Absorb (b : Byte) (s : State) : Host.Outcome State Fault Refusal :=
  complete (spentFault s.md2.done) (encode (.md2Absorb b)) s (s.setMd2 (md2Absorb b s.md2))

/-- `md2.finalize` (R161). -/
def execMd2Finalize (s : State) : Host.Outcome State Fault Refusal :=
  complete (spentFault s.md2.done) (encode .md2Finalize) s (s.setMd2 (md2Finalize s.md2))

/-- `md2.rdig i` (R166). -/
def execMd2Rdig (i : Byte) (s : State) : Host.Outcome State Fault Refusal :=
  complete (rdigFault s.md2.done (Config.digestBytes .md2) (operandIndex i)) (encode (.md2Rdig i)) s
    (s.respond ((digestMd2 s.md2.x).getD (operandIndex i) 0) false)

end Sys2Proof.Machine
end

