-- ==== Sys2Proof/Machine/MdShape.lean ====
section
/-! DEFINITION. The streaming shape that MD5, SHA-1, SHA-224 and SHA-256 share (43_md_shape.md), over the engine's
compression function and its length trailer writer (R189); and the word recurrence the two SHA schedules share. -/

namespace Sys2Proof.Machine

/-- Whether one more byte fills the block, so that ABSORB compresses (43_md_shape.md R191). -/
def fillsBlock {n : Nat} (c : MdCtx n) : Bool := decide (c.fill.val + 1 = 64)

/-- The context after ABSORB of `d` (43_md_shape.md R191). -/
def mdAbsorb {n : Nat} (compress : Vector Word n → Block → Vector Word n) (d : Byte) (c : MdCtx n) : MdCtx n :=
  let b := c.b.set c.fill d
  if h : c.fill.val + 1 = 64 then
    { h := compress c.h b, b := b, fill := 0, len := c.len + 512, done := c.done }
  else { c with b := b, fill := ⟨c.fill.val + 1, by omega⟩ }

/-- `TOT`, the bit length of the whole message modulo 2^64 (43_md_shape.md R194; 90_conflicts.md C12). -/
def totalBits {n : Nat} (c : MdCtx n) : BitCount := c.len + BitVec.ofNat 64 (8 * c.fill.val)

/-- `0x80` at `FILL` and zero bytes behind it (43_md_shape.md R193). -/
def mdPad (fill : Fin 64) (b : Block) : Block :=
  Vector.ofFn fun j => if j.val < fill.val then b[j.val] else if j.val = fill.val then 0x80 else 0

/-- Whether the length trailer does not fit behind the `0x80` byte (43_md_shape.md R193, R195). -/
def needsExtraBlock {n : Nat} (c : MdCtx n) : Bool := decide (56 < c.fill.val + 1)

/-- The context after FINALIZE (43_md_shape.md R193). -/
def mdFinalize {n : Nat} (compress : Vector Word n → Block → Vector Word n) (putLen : Block → BitCount → Block)
    (c : MdCtx n) : MdCtx n :=
  let tot := totalBits c
  let padded := mdPad c.fill c.b
  let h := if needsExtraBlock c then compress c.h padded else c.h
  let b := putLen (if needsExtraBlock c then Vector.replicate 64 0 else padded) tot
  { h := compress h b, b := b, fill := 0, len := tot, done := true }

/-- `W[i-k]` in a schedule listed newest word first (45_sha1.md R244; 46_sha2.md R272). -/
def wordBack (newestFirst : List Word) (k : Nat) : Word := newestFirst.getD (k - 1) 0

/-- A schedule listed newest first, extended by `n` words. -/
def extendSchedule (next : List Word → Word) : Nat → List Word → List Word
  | 0, ws => ws
  | n + 1, ws => extendSchedule next n (next ws :: ws)

end Sys2Proof.Machine
end

