-- ==== Sys2Proof/Machine/Primitives.lean ====
section
/-! DEFINITION. The shared bit primitives (40_primitives.md R110 to R118): pure functions of their arguments (R119). -/

namespace Sys2Proof.Machine

/-- `rotl_W(x, n)` (R110), for `0 ≤ n ≤ W`; no rule calls it with `n > W` (log entry 10). -/
def rotl {w : Nat} (x : BitVec w) (n : Nat) : BitVec w :=
  if n = 0 ∨ n = w then x else (x <<< n) ||| (x >>> (w - n))

/-- `rotr_W(x, n)` (R111), for `0 ≤ n ≤ W`. -/
def rotr {w : Nat} (x : BitVec w) (n : Nat) : BitVec w :=
  if n = 0 ∨ n = w then x else (x >>> n) ||| (x <<< (w - n))

/-- `shr(x, n)`, the logical right shift (R112). -/
def shr (x : Word) (n : Nat) : Word := x >>> n

/-- `CH` (R113). -/
def ch (x y z : Word) : Word := (x &&& y) ^^^ (~~~x &&& z)

/-- `MAJ` (R114). -/
def maj (x y z : Word) : Word := (x &&& y) ^^^ (x &&& z) ^^^ (y &&& z)

/-- `Σ0` (R115). -/
def bigSigma0 (x : Word) : Word := rotr x 2 ^^^ rotr x 13 ^^^ rotr x 22

/-- `Σ1` (R116). -/
def bigSigma1 (x : Word) : Word := rotr x 6 ^^^ rotr x 11 ^^^ rotr x 25

/-- `σ0` (R117): the third term is a shift. -/
def smallSigma0 (x : Word) : Word := rotr x 7 ^^^ rotr x 18 ^^^ shr x 3

/-- `σ1` (R118): the third term is a shift. -/
def smallSigma1 (x : Word) : Word := rotr x 17 ^^^ rotr x 19 ^^^ shr x 10

end Sys2Proof.Machine
end

