-- ==== Sys2Proof/Machine/Md5.lean ====
section
/-! DEFINITION. The MD5 compression core and engine (44_md5.md). -/

namespace Sys2Proof.Machine

/-- The working variables `(a, b, c, d)` (44_md5.md R210). -/
abbrev Md5Vars := Word × Word × Word × Word

/-- The round-family function of step `i`, selected by `i div 16` (44_md5.md R213). -/
def md5Family (i : Nat) (x y z : Word) : Word :=
  match i / 16 with
  | 0 => (x &&& y) ||| (~~~x &&& z)
  | 1 => (x &&& z) ||| (y &&& ~~~z)
  | 2 => x ^^^ y ^^^ z
  | _ => y ^^^ (x ||| ~~~z)

/-- The message word index `g(i)` of step `i` (44_md5.md R214). -/
def md5Index (i : Nat) : Fin 16 :=
  match i / 16 with
  | 0 => Fin.ofNat 16 i
  | 1 => Fin.ofNat 16 (5 * i + 1)
  | 2 => Fin.ofNat 16 (3 * i + 5)
  | _ => Fin.ofNat 16 (7 * i)

/-- `Step5(i, (a, b, c, d))` (44_md5.md R215). -/
def md5Step (m : Vector Word 16) (v : Md5Vars) (i : Nat) : Md5Vars :=
  match v with
  | (a, b, c, d) =>
    let u := a + md5Family i b c d + m[md5Index i] + romK5 i
    (d, b + rotl u (shift5 i), b, c)

/-- `Compress_MD5(H, B)` (44_md5.md R216). -/
def compressMd5 (h : Vector Word 4) (b : Block) : Vector Word 4 :=
  match (List.range Config.md5Steps).foldl (md5Step (messageLE b)) (h[0], h[1], h[2], h[3]) with
  | (a', b', c', d') => #v[h[0] + a', h[1] + b', h[2] + c', h[3] + d']

/-- `md5.init` (44_md5.md R222). -/
def execMd5Init (s : State) : Host.Outcome State Fault Refusal :=
  .next (s.setMd5 initMd5)

/-- `md5.absorb b` (44_md5.md R223). -/
def execMd5Absorb (b : Byte) (s : State) : Host.Outcome State Fault Refusal :=
  complete (spentFault s.md5.done) (encode (.md5Absorb b)) s (s.setMd5 (mdAbsorb compressMd5 b s.md5))

/-- `md5.finalize` (44_md5.md R224). -/
def execMd5Finalize (s : State) : Host.Outcome State Fault Refusal :=
  complete (spentFault s.md5.done) (encode .md5Finalize) s (s.setMd5 (mdFinalize compressMd5 putLE64 s.md5))

/-- `md5.rdig i` (44_md5.md R225). -/
def execMd5Rdig (i : Byte) (s : State) : Host.Outcome State Fault Refusal :=
  complete (rdigFault s.md5.done (Config.digestBytes .md5) (operandIndex i)) (encode (.md5Rdig i)) s
    (s.respond ((digestLE 4 s.md5.h).getD (operandIndex i) 0) false)

end Sys2Proof.Machine
end

