-- ==== Sys2Proof/Machine/Sha1.lean ====
section
/-! DEFINITION. The SHA-1 compression core and engine (45_sha1.md). -/

namespace Sys2Proof.Machine

/-- The working variables `(a, b, c, d, e)` (45_sha1.md R240). -/
abbrev Sha1Vars := Word × Word × Word × Word × Word

/-- The next schedule word from those before it (45_sha1.md R244). -/
def sha1NextWord (ws : List Word) : Word :=
  rotl (wordBack ws 3 ^^^ wordBack ws 8 ^^^ wordBack ws 14 ^^^ wordBack ws 16) 1

/-- The schedule `W[0..79]` of a block (45_sha1.md R244). -/
def sha1Schedule (b : Block) : List Word :=
  (extendSchedule sha1NextWord (Config.sha1Steps - 16) (messageBE b).toList.reverse).reverse

/-- The round-family function of step `i`, selected by `i div 20` (45_sha1.md R242). -/
def sha1Family (i : Nat) (b c d : Word) : Word :=
  match i / 20 with
  | 0 => (b &&& c) ||| (~~~b &&& d)
  | 1 => b ^^^ c ^^^ d
  | 2 => maj b c d
  | _ => b ^^^ c ^^^ d

/-- `Step1(i, (a, b, c, d, e))` (45_sha1.md R245), with the pair of the word `W[i]` and the step number `i`. -/
def sha1Step (v : Sha1Vars) (wi : Word × Nat) : Sha1Vars :=
  match v with
  | (a, b, c, d, e) =>
    (rotl a 5 + sha1Family wi.2 b c d + e + romK1 (wi.2 / 20) + wi.1, a, rotl b 30, c, d)

/-- `Compress_SHA1(H, B)` (45_sha1.md R246). -/
def compressSha1 (h : Vector Word 5) (b : Block) : Vector Word 5 :=
  match (sha1Schedule b).zipIdx.foldl sha1Step (h[0], h[1], h[2], h[3], h[4]) with
  | (a', b', c', d', e') => #v[h[0] + a', h[1] + b', h[2] + c', h[3] + d', h[4] + e']

/-- `sha1.init` (45_sha1.md R252). -/
def execSha1Init (s : State) : Host.Outcome State Fault Refusal :=
  .next (s.setSha1 initSha1)

/-- `sha1.absorb b` (45_sha1.md R253). -/
def execSha1Absorb (b : Byte) (s : State) : Host.Outcome State Fault Refusal :=
  complete (spentFault s.sha1.done) (encode (.sha1Absorb b)) s (s.setSha1 (mdAbsorb compressSha1 b s.sha1))

/-- `sha1.finalize` (45_sha1.md R254). -/
def execSha1Finalize (s : State) : Host.Outcome State Fault Refusal :=
  complete (spentFault s.sha1.done) (encode .sha1Finalize) s (s.setSha1 (mdFinalize compressSha1 putBE64 s.sha1))

/-- `sha1.rdig i` (45_sha1.md R255). -/
def execSha1Rdig (i : Byte) (s : State) : Host.Outcome State Fault Refusal :=
  complete (rdigFault s.sha1.done (Config.digestBytes .sha1) (operandIndex i)) (encode (.sha1Rdig i)) s
    (s.respond ((digestBE 5 s.sha1.h).getD (operandIndex i) 0) false)

end Sys2Proof.Machine
end

