-- ==== Sys2Proof/Machine/Sha2.lean ====
section
/-! DEFINITION. The one SHA-2 compression core (46_sha2.md R270) and the two engines that share it, SHA-224 and SHA-256.
They differ in their initial state and in how many state words make the digest (R267). -/

namespace Sys2Proof.Machine

/-- The working variables `(a, …, h)` (46_sha2.md R265). -/
abbrev Sha2Vars := Word × Word × Word × Word × Word × Word × Word × Word

/-- The next schedule word from those before it (46_sha2.md R272). -/
def sha2NextWord (ws : List Word) : Word :=
  smallSigma1 (wordBack ws 2) + wordBack ws 7 + smallSigma0 (wordBack ws 15) + wordBack ws 16

/-- The schedule `W[0..63]` of a block (46_sha2.md R272). -/
def sha2Schedule (b : Block) : List Word :=
  (extendSchedule sha2NextWord (Config.sha2Steps - 16) (messageBE b).toList.reverse).reverse

/-- `Step2(i, (a, …, h))` (46_sha2.md R274), with the pair of the word `W[i]` and the step number `i`. -/
def sha2Step (v : Sha2Vars) (wi : Word × Nat) : Sha2Vars :=
  match v with
  | (a, b, c, d, e, f, g, h) =>
    let t1 := h + bigSigma1 e + ch e f g + romK2 wi.2 + wi.1
    let t2 := bigSigma0 a + maj a b c
    (t1 + t2, a, b, c, d + t1, e, f, g)

/-- `Compress_SHA2(H, B)` (46_sha2.md R276), for both contexts. -/
def compressSha2 (h : Vector Word 8) (b : Block) : Vector Word 8 :=
  match (sha2Schedule b).zipIdx.foldl sha2Step (h[0], h[1], h[2], h[3], h[4], h[5], h[6], h[7]) with
  | (a', b', c', d', e', f', g', h') =>
    #v[h[0] + a', h[1] + b', h[2] + c', h[3] + d', h[4] + e', h[5] + f', h[6] + g', h[7] + h']

/-- `sha224.init` (46_sha2.md R282). -/
def execSha224Init (s : State) : Host.Outcome State Fault Refusal :=
  .next (s.setSha224 initSha224)

/-- `sha224.absorb b` (46_sha2.md R283). -/
def execSha224Absorb (b : Byte) (s : State) : Host.Outcome State Fault Refusal :=
  complete (spentFault s.sha224.done) (encode (.sha224Absorb b)) s (s.setSha224 (mdAbsorb compressSha2 b s.sha224))

/-- `sha224.finalize` (46_sha2.md R284). -/
def execSha224Finalize (s : State) : Host.Outcome State Fault Refusal :=
  complete (spentFault s.sha224.done) (encode .sha224Finalize) s
    (s.setSha224 (mdFinalize compressSha2 putBE64 s.sha224))

/-- `sha224.rdig i` (46_sha2.md R285): the digest drops `H[7]` (R281). -/
def execSha224Rdig (i : Byte) (s : State) : Host.Outcome State Fault Refusal :=
  complete (rdigFault s.sha224.done (Config.digestBytes .sha224) (operandIndex i)) (encode (.sha224Rdig i)) s
    (s.respond ((digestBE 7 s.sha224.h).getD (operandIndex i) 0) false)

/-- `sha256.init` (46_sha2.md R286). -/
def execSha256Init (s : State) : Host.Outcome State Fault Refusal :=
  .next (s.setSha256 initSha256)

/-- `sha256.absorb b` (46_sha2.md R287). -/
def execSha256Absorb (b : Byte) (s : State) : Host.Outcome State Fault Refusal :=
  complete (spentFault s.sha256.done) (encode (.sha256Absorb b)) s (s.setSha256 (mdAbsorb compressSha2 b s.sha256))

/-- `sha256.finalize` (46_sha2.md R288). -/
def execSha256Finalize (s : State) : Host.Outcome State Fault Refusal :=
  complete (spentFault s.sha256.done) (encode .sha256Finalize) s
    (s.setSha256 (mdFinalize compressSha2 putBE64 s.sha256))

/-- `sha256.rdig i` (46_sha2.md R289). -/
def execSha256Rdig (i : Byte) (s : State) : Host.Outcome State Fault Refusal :=
  complete (rdigFault s.sha256.done (Config.digestBytes .sha256) (operandIndex i)) (encode (.sha256Rdig i)) s
    (s.respond ((digestBE 8 s.sha256.h).getD (operandIndex i) 0) false)

end Sys2Proof.Machine
end

