-- ==== Sys2Proof/Machine/Status.lean ====
section
/-! DEFINITION. The status read RSTAT of each engine (47_status.md R295, R296): legal in every state, no fault of its own,
nothing written but the response. -/

namespace Sys2Proof.Machine

/-- `djb2.rstat` (47_status.md R296). -/
def execDjb2Rstat (s : State) : Host.Outcome State Fault Refusal :=
  .next (s.respond (status s .djb2) false)

/-- `md2.rstat` (47_status.md R296). -/
def execMd2Rstat (s : State) : Host.Outcome State Fault Refusal :=
  .next (s.respond (status s .md2) false)

/-- `md5.rstat` (47_status.md R296). -/
def execMd5Rstat (s : State) : Host.Outcome State Fault Refusal :=
  .next (s.respond (status s .md5) false)

/-- `sha1.rstat` (47_status.md R296). -/
def execSha1Rstat (s : State) : Host.Outcome State Fault Refusal :=
  .next (s.respond (status s .sha1) false)

/-- `sha224.rstat` (47_status.md R296). -/
def execSha224Rstat (s : State) : Host.Outcome State Fault Refusal :=
  .next (s.respond (status s .sha224) false)

/-- `sha256.rstat` (47_status.md R296). -/
def execSha256Rstat (s : State) : Host.Outcome State Fault Refusal :=
  .next (s.respond (status s .sha256) false)

end Sys2Proof.Machine
end

