-- ==== Sys2Proof/Machine/Dispatch.lean ====
section
/-! DEFINITION. The dispatch: one arm for each constructor of Instr (30_encoding.md R92, R93). -/

namespace Sys2Proof.Machine

def exec (i : Instr) (s : State) : Host.Outcome State Fault Refusal :=
  match i with
  | .djb2Init => Sys2Proof.Machine.execDjb2Init s
  | .djb2Absorb b => Sys2Proof.Machine.execDjb2Absorb b s
  | .djb2Finalize => Sys2Proof.Machine.execDjb2Finalize s
  | .djb2Rdig k => Sys2Proof.Machine.execDjb2Rdig k s
  | .djb2Rstat => Sys2Proof.Machine.execDjb2Rstat s
  | .md2Init => Sys2Proof.Machine.execMd2Init s
  | .md2Absorb b => Sys2Proof.Machine.execMd2Absorb b s
  | .md2Finalize => Sys2Proof.Machine.execMd2Finalize s
  | .md2Rdig k => Sys2Proof.Machine.execMd2Rdig k s
  | .md2Rstat => Sys2Proof.Machine.execMd2Rstat s
  | .md5Init => Sys2Proof.Machine.execMd5Init s
  | .md5Absorb b => Sys2Proof.Machine.execMd5Absorb b s
  | .md5Finalize => Sys2Proof.Machine.execMd5Finalize s
  | .md5Rdig k => Sys2Proof.Machine.execMd5Rdig k s
  | .md5Rstat => Sys2Proof.Machine.execMd5Rstat s
  | .sha1Init => Sys2Proof.Machine.execSha1Init s
  | .sha1Absorb b => Sys2Proof.Machine.execSha1Absorb b s
  | .sha1Finalize => Sys2Proof.Machine.execSha1Finalize s
  | .sha1Rdig k => Sys2Proof.Machine.execSha1Rdig k s
  | .sha1Rstat => Sys2Proof.Machine.execSha1Rstat s
  | .sha224Init => Sys2Proof.Machine.execSha224Init s
  | .sha224Absorb b => Sys2Proof.Machine.execSha224Absorb b s
  | .sha224Finalize => Sys2Proof.Machine.execSha224Finalize s
  | .sha224Rdig k => Sys2Proof.Machine.execSha224Rdig k s
  | .sha224Rstat => Sys2Proof.Machine.execSha224Rstat s
  | .sha256Init => Sys2Proof.Machine.execSha256Init s
  | .sha256Absorb b => Sys2Proof.Machine.execSha256Absorb b s
  | .sha256Finalize => Sys2Proof.Machine.execSha256Finalize s
  | .sha256Rdig k => Sys2Proof.Machine.execSha256Rdig k s
  | .sha256Rstat => Sys2Proof.Machine.execSha256Rstat s

end Sys2Proof.Machine
end

