-- ==== Sys2Proof/Machine/Port.lean ====
section
/-! DEFINITION. The ports and the hand-shake (30_encoding.md R80 to R83; 70_reset_and_hazards.md R330, R331, R340, R341,
R345): what one rising edge of `clk` does, and what the core drives on its outputs. -/

namespace Sys2Proof.Machine

/-- `Step(w)` (30_encoding.md R92): the effect of one accepted word. An illegal word is a fault found by decode, before
any engine is selected (60_exceptions.md R301). -/
def runWord (w : CmdWord) (s : State) : Host.Outcome State Fault Refusal :=
  match decode w with
  | .ok i => exec i s
  | .error _ => .next (takeFault .illegal w s)

/-- The fault that the checks of a legal command find, if any (60_exceptions.md R302 to R304, R308). -/
def faultOf (i : Instr) (s : State) : Option FaultKind :=
  match i.op with
  | .init => none
  | .absorb => spentFault (s.done i.engine)
  | .finalize => if i.engine = .djb2 then none else spentFault (s.done i.engine)
  | .rdig => rdigFault (s.done i.engine) (Config.digestBytes i.engine) (operandIndex i.imm8)
  | .rstat => none

/-- Whether an ABSORB on this engine fills its block, and so compresses (42_md2.md R160; 43_md_shape.md R191). -/
def State.absorbFills (s : State) : Engine → Bool
  | .djb2 => false
  | .md2 => decide (s.md2.fill.val + 1 = 16)
  | .md5 => fillsBlock s.md5
  | .sha1 => fillsBlock s.sha1
  | .sha224 => fillsBlock s.sha224
  | .sha256 => fillsBlock s.sha256

/-- The number of compressions a FINALIZE on this engine runs (70_reset_and_hazards.md R345; 43_md_shape.md R195). -/
def State.finalizeRuns (s : State) : Engine → Fin 3
  | .djb2 => 0
  | .md2 => 2
  | .md5 => if needsExtraBlock s.md5 then 2 else 1
  | .sha1 => if needsExtraBlock s.sha1 then 2 else 1
  | .sha224 => if needsExtraBlock s.sha224 then 2 else 1
  | .sha256 => if needsExtraBlock s.sha256 then 2 else 1

/-- The number `L` of edges the word takes (70_reset_and_hazards.md R340, R345). -/
def edgesOf (w : CmdWord) (s : State) : Nat :=
  match decode w with
  | .error _ => s.lat.read
  | .ok i =>
    if (faultOf i s).isSome then s.lat.read
    else match i.op with
      | .init => s.lat.init
      | .absorb => if s.absorbFills i.engine then s.lat.absorbBlock[i.engine.index] else s.lat.absorb
      | .finalize => s.lat.finalize[i.engine.index][s.finalizeRuns i.engine]
      | .rdig => s.lat.read
      | .rstat => s.lat.read

/-- The word is accepted (30_encoding.md R80): with `L = 1` its writes happen on this edge, else it is in execution for
`L - 1` more (70_reset_and_hazards.md R340). -/
def accept (w : CmdWord) (s : State) : Host.Outcome State Fault Refusal :=
  if edgesOf w s ≤ 1 then runWord w s
  else .next (s.setRunning (some { word := w, left := edgesOf w s - 1 }))

/-- One more edge of a command in execution; on its last one its writes happen (70_reset_and_hazards.md R340). -/
def continueRunning (r : Running) (s : State) : Host.Outcome State Fault Refusal :=
  if r.left ≤ 1 then runWord r.word (s.setRunning none)
  else .next (s.setRunning (some { word := r.word, left := r.left - 1 }))

/-- One rising edge of `clk` on which the host drives `p`. Reset overrides everything (R330). Otherwise: the settling
edge after reset (R331); an edge of a command in execution (R340); a full `RSPQ`, which only the host empties (R83,
R341); or an idle core, which accepts a valid word (R80) and else holds its state (60_exceptions.md R320). -/
def edge (p : PortIn) (s : State) : Host.Outcome State Fault Refusal :=
  if p.rst then .next s.resetEdge
  else if s.settling then .next s.settled
  else match s.running with
    | some r => continueRunning r s
    | none =>
      match s.rspq with
      | some _ => .next (if p.rspReady then s.takeResponse else s)
      | none => if p.cmdValid then accept p.cmd s else .next s

/-- A host that drives nothing. -/
def PortIn.idle : PortIn := { rst := false, cmdValid := false, cmd := 0, rspReady := false }

/-- A host that presents the word `w`, ready for a response. -/
def PortIn.present (w : CmdWord) : PortIn := { rst := false, cmdValid := true, cmd := w, rspReady := true }

/-- What the host drives on the next edge. -/
def State.nextIn (s : State) : PortIn := s.port.headD PortIn.idle

/-- The state once the host's next input has been consumed. -/
def State.advance (s : State) : State := s.setPort s.port.tail

/-- `cmd_ready` (70_reset_and_hazards.md R340, R331), under the reset input of that moment. -/
def cmdReady (rst : Bool) (s : State) : Bool := !rst && !s.settling && s.running.isNone && s.rspq.isNone

/-- `rsp_valid` (30_encoding.md R83; 70_reset_and_hazards.md R331: 0 while `rst = 1`, log entry 4). -/
def rspValid (rst : Bool) (s : State) : Bool := !rst && s.rspq.isSome

/-- `rsp_data` and `rsp_err`: the held response while `rsp_valid = 1`, and no stated value otherwise (30_encoding.md R83;
93_implementation_defined.md U22; log entry 5). -/
def rspOut (rst : Bool) (s : State) : Option Response := if rst then none else s.rspq

/-- `err = (ERR ≠ 0)` (30_encoding.md R82). -/
def errOut (s : State) : Bool := decide (s.err ≠ 0)

/-- `err_cmd = ERRCMD` (30_encoding.md R82). -/
def errCmdOut (s : State) : CmdWord := s.errCmd

end Sys2Proof.Machine
end

