-- ==== Sys2Proof/Machine/Step.lean ====
section
/-! DEFINITION. One step of the machine: one rising edge of `clk` (30_encoding.md R81) on the host's next input. On an
accepting edge of a command with `L = 1` the step consumes that one command word (00_scope.md R10). -/

namespace Sys2Proof.Machine

def step (s : State) : Host.Outcome State Fault Refusal := edge s.nextIn s.advance

/-- `s` with the word `w` presented on the command port for the next edge, and the core ready for it: no settling edge to
come, no command in execution, `RSPQ` empty, and one edge for the command, so that the next step runs exactly `w`. -/
def State.withFetchWord (s : State) (nbits w : Nat) : State :=
  { s with
    settling := false, running := none, rspq := none, lat := Latency.unit,
    port := PortIn.present (BitVec.ofNat 16 (w % 2 ^ nbits)) :: s.port }

end Sys2Proof.Machine
end

