-- ==== Sys2Proof/Machine/Assembler.lean ====
section
/-! DEFINITION. The assembler of command-stream programs (30_encoding.md R98 to R100): the text of one line to a command,
and a command to the command words it stands for. Text is a list of characters; characters are compared by their ASCII
codes. Where R98 leaves the layout of a line open, the choice is log entry 12. -/

namespace Sys2Proof.Machine

/-- What one line of a program says: a command, a raw word (`.word`), or a pseudo-instruction (R98, R100). -/
inductive AsmCommand
  | instr (i : Instr)
  | rawWord (w : CmdWord)
  | absorbs (e : Engine) (bytes : List Byte)
  | rdigest (e : Engine)
  | hash (e : Engine) (bytes : List Byte)
  deriving DecidableEq, Repr

/-- Why the assembler refuses a line (R98). -/
inductive AsmError
  | unknownEngine
  | unknownOp
  | operandOutOfRange
  | missingOperand
  | unexpectedText
  deriving DecidableEq, Repr

/-- `E.absorbs bytes`: one ABSORB per byte in order, nothing for an empty sequence (R100; 20_memory.md R74). -/
def absorbsProgram (e : Engine) (bytes : List Byte) : List Instr := bytes.map (Instr.of e .absorb)

/-- `E.rdigest`: RDIG of every digest index in order (R100). -/
def rdigestProgram (e : Engine) : List Instr :=
  (List.range (Config.digestBytes e)).map fun i => Instr.of e .rdig (BitVec.ofNat 8 i)

/-- `E.hash bytes` (R100). -/
def hashProgram (e : Engine) (bytes : List Byte) : List Instr :=
  [Instr.of e .init 0] ++ absorbsProgram e bytes ++ [Instr.of e .finalize 0] ++ rdigestProgram e

/-- The command words a line emits (R98, R100). -/
def AsmCommand.words : AsmCommand → List CmdWord
  | .instr i => [encode i]
  | .rawWord w => [w]
  | .absorbs e bytes => (absorbsProgram e bytes).map encode
  | .rdigest e => (rdigestProgram e).map encode
  | .hash e bytes => (hashProgram e bytes).map encode

namespace Asm

def isBlank (c : Char) : Bool := c.toNat == 0x20 || c.toNat == 0x09

def isDigit (c : Char) : Bool := decide (0x30 ≤ c.toNat ∧ c.toNat ≤ 0x39)

/-- A character of an engine or operation name: a small letter or a digit. -/
def isNameChar (c : Char) : Bool := isDigit c || decide (0x61 ≤ c.toNat ∧ c.toNat ≤ 0x7A)

/-- A printable ASCII character. -/
def isPrintable (c : Char) : Bool := decide (0x20 ≤ c.toNat ∧ c.toNat ≤ 0x7E)

/-- The value of a hexadecimal digit, of either case. -/
def hexValue (c : Char) : Option Nat :=
  if isDigit c then some (c.toNat - 0x30)
  else if 0x41 ≤ c.toNat ∧ c.toNat ≤ 0x46 then some (c.toNat - 0x37)
  else if 0x61 ≤ c.toNat ∧ c.toNat ≤ 0x66 then some (c.toNat - 0x57)
  else none

def skipBlanks : List Char → List Char := List.dropWhile isBlank

/-- The value of a run of decimal digits. -/
def decimal (ds : List Char) : Nat := ds.foldl (fun v d => 10 * v + (d.toNat - 0x30)) 0

/-- The value of exactly `n` hexadecimal digits, and the text behind them. -/
def hexDigits : Nat → Nat → List Char → Option (Nat × List Char)
  | 0, v, cs => some (v, cs)
  | _ + 1, _, [] => none
  | n + 1, v, c :: cs =>
    match hexValue c with
    | some d => hexDigits n (16 * v + d) cs
    | none => none

/-- `0x` and exactly `n` hexadecimal digits, no further one behind them. -/
def hexLiteral (n : Nat) (cs : List Char) : Except AsmError (Nat × List Char) :=
  match hexDigits n 0 cs with
  | none => .error .unexpectedText
  | some (v, rest) => if (rest.head?.bind hexValue).isSome then .error .operandOutOfRange else .ok (v, rest)

/-- `byte := decimal 0..255 | "0x" hex 00..FF | "'" printable ASCII char "'"` (R98). -/
def byte (cs : List Char) : Except AsmError (Byte × List Char) :=
  match cs with
  | [] => .error .missingOperand
  | c :: rest =>
    if c.toNat = 0x27 then
      match rest with
      | d :: q :: rest' =>
        if isPrintable d && q.toNat == 0x27 then .ok (BitVec.ofNat 8 d.toNat, rest') else .error .unexpectedText
      | _ => .error .unexpectedText
    else if c.toNat = 0x30 ∧ (rest.head?.map Char.toNat) = some 0x78 then
      match hexLiteral 2 rest.tail with
      | .ok (v, rest') => .ok (BitVec.ofNat 8 v, rest')
      | .error e => .error e
    else if isDigit c then
      if 255 < decimal (cs.takeWhile isDigit) then .error .operandOutOfRange
      else .ok (BitVec.ofNat 8 (decimal (cs.takeWhile isDigit)), cs.dropWhile isDigit)
    else if c.toNat = 0x3B then .error .missingOperand
    else .error .unexpectedText

/-- The characters of an ASCII string up to its closing quote (R99). -/
def stringBytes : List Char → Except AsmError (List Byte × List Char)
  | [] => .error .unexpectedText
  | c :: cs =>
    if c.toNat = 0x22 then .ok ([], cs)
    else if 128 ≤ c.toNat then .error .operandOutOfRange
    else match stringBytes cs with
      | .ok (bs, rest) => .ok (BitVec.ofNat 8 c.toNat :: bs, rest)
      | .error e => .error e

/-- The bytes of a list behind its opening bracket, up to the closing one (R99); `fuel` bounds their number. -/
def listBytes : Nat → List Char → Except AsmError (List Byte × List Char)
  | 0, _ => .error .unexpectedText
  | fuel + 1, cs =>
    match byte (skipBlanks cs) with
    | .error e => .error e
    | .ok (b, rest) =>
      match skipBlanks rest with
      | [] => .error .unexpectedText
      | c :: rest' =>
        if c.toNat = 0x5D then .ok ([b], rest')
        else if c.toNat = 0x2C then
          match listBytes fuel rest' with
          | .ok (bs, rest'') => .ok (b :: bs, rest'')
          | .error e => .error e
        else .error .unexpectedText

/-- `bytes := '"' ASCII string '"' | "[" byte {"," byte} "]"` (R99). -/
def bytes (cs : List Char) : Except AsmError (List Byte × List Char) :=
  match cs with
  | [] => .error .missingOperand
  | c :: rest =>
    if c.toNat = 0x22 then stringBytes rest
    else if c.toNat = 0x5B then listBytes rest.length rest
    else if c.toNat = 0x3B then .error .missingOperand
    else .error .unexpectedText

/-- The engine names (R98). -/
def engineNames : List (List Char × Engine) :=
  [(['d', 'j', 'b', '2'], .djb2), (['m', 'd', '2'], .md2), (['m', 'd', '5'], .md5), (['s', 'h', 'a', '1'], .sha1),
   (['s', 'h', 'a', '2', '2', '4'], .sha224), (['s', 'h', 'a', '2', '5', '6'], .sha256)]

/-- What follows an engine name: an operation (R98) or a pseudo-instruction (R100). -/
inductive OpName
  | op (o : Op)
  | absorbs
  | rdigest
  | hash
  deriving DecidableEq, Repr

/-- The operation names (R98, R100). -/
def opNames : List (List Char × OpName) :=
  [(['i', 'n', 'i', 't'], .op .init), (['a', 'b', 's', 'o', 'r', 'b'], .op .absorb),
   (['f', 'i', 'n', 'a', 'l', 'i', 'z', 'e'], .op .finalize), (['r', 'd', 'i', 'g'], .op .rdig),
   (['r', 's', 't', 'a', 't'], .op .rstat), (['a', 'b', 's', 'o', 'r', 'b', 's'], .absorbs),
   (['r', 'd', 'i', 'g', 'e', 's', 't'], .rdigest), (['h', 'a', 's', 'h'], .hash)]

/-- The command of an engine and an operation name, with its operand in the text behind them. -/
def command (e : Engine) (o : OpName) (cs : List Char) : Except AsmError (AsmCommand × List Char) :=
  match o with
  | .op o =>
    if o.hasOperand then
      match byte cs with
      | .ok (b, rest) => .ok (.instr (Instr.of e o b), rest)
      | .error err => .error err
    else .ok (.instr (Instr.of e o 0), cs)
  | .absorbs =>
    match bytes cs with
    | .ok (bs, rest) => .ok (.absorbs e bs, rest)
    | .error err => .error err
  | .rdigest => .ok (.rdigest e, cs)
  | .hash =>
    match bytes cs with
    | .ok (bs, rest) => .ok (.hash e bs, rest)
    | .error err => .error err

/-- `.word 0xNNNN`, from the text behind the dot (R98). -/
def rawWord (cs : List Char) : Except AsmError (AsmCommand × List Char) :=
  match cs with
  | 'w' :: 'o' :: 'r' :: 'd' :: rest =>
    match rest, skipBlanks rest with
    | c :: _, z :: x :: digits =>
      if isBlank c && z.toNat == 0x30 && x.toNat == 0x78 then
        match hexLiteral 4 digits with
        | .ok (v, rest') => .ok (.rawWord (BitVec.ofNat 16 v), rest')
        | .error err => .error err
      else .error .unexpectedText
    | _, _ => .error .missingOperand
  | _ => .error .unknownOp

/-- `line := [command] [";" comment]` (R98): no command, or one. -/
def line (cs : List Char) : Except AsmError (Option AsmCommand) :=
  match skipBlanks cs with
  | [] => .ok none
  | c :: rest =>
    if c.toNat = 0x3B then .ok none
    else
      let parsed :=
        if c.toNat = 0x2E then rawWord rest
        else
          let cs := c :: rest
          match engineNames.lookup (cs.takeWhile isNameChar), cs.dropWhile isNameChar with
          | some e, d :: behind =>
            if d.toNat = 0x2E then
              let operand := behind.dropWhile isNameChar
              match opNames.lookup (behind.takeWhile isNameChar) with
              | none => .error .unknownOp
              | some o =>
                if (operand.head?.map isBlank).getD true || (operand.head?.map Char.toNat) == some 0x3B then
                  command e o (skipBlanks operand)
                else .error .unexpectedText
            else .error .unexpectedText
          | some _, [] => .error .unknownOp
          | none, _ => .error .unknownEngine
      match parsed with
      | .error err => .error err
      | .ok (cmd, behind) =>
        match skipBlanks behind with
        | [] => .ok (some cmd)
        | d :: _ => if d.toNat = 0x3B then .ok (some cmd) else .error .unexpectedText

/-- The command words of a program, line by line (R98). -/
def program : List (List Char) → Except AsmError (List CmdWord)
  | [] => .ok []
  | l :: ls =>
    match line l, program ls with
    | .ok cmd, .ok ws => .ok ((cmd.map AsmCommand.words).getD [] ++ ws)
    | .error e, _ => .error e
    | _, .error e => .error e

/-- A hexadecimal digit, in the capitals of R98. -/
def hexChar (n : Nat) : Char := if n < 10 then Char.ofNat (0x30 + n) else Char.ofNat (0x37 + n)

/-- A byte literal in hexadecimal (R98). -/
def hexByte (b : Byte) : List Char := ['0', 'x', hexChar (b.toNat / 16), hexChar (b.toNat % 16)]

/-- The name of an engine (R98). -/
def engineName : Engine → List Char
  | .djb2 => ['d', 'j', 'b', '2']
  | .md2 => ['m', 'd', '2']
  | .md5 => ['m', 'd', '5']
  | .sha1 => ['s', 'h', 'a', '1']
  | .sha224 => ['s', 'h', 'a', '2', '2', '4']
  | .sha256 => ['s', 'h', 'a', '2', '5', '6']

/-- The name of an operation (R98). -/
def opName : Op → List Char
  | .init => ['i', 'n', 'i', 't']
  | .absorb => ['a', 'b', 's', 'o', 'r', 'b']
  | .finalize => ['f', 'i', 'n', 'a', 'l', 'i', 'z', 'e']
  | .rdig => ['r', 'd', 'i', 'g']
  | .rstat => ['r', 's', 't', 'a', 't']

/-- An instruction written as a line of R98: its mnemonic, and its operand in hexadecimal where it has one. -/
def render (i : Instr) : List Char :=
  engineName i.engine ++ ['.'] ++ opName i.op ++ (if i.op.hasOperand then ' ' :: hexByte i.imm8 else [])

end Asm

end Sys2Proof.Machine
end

