-- ==== Sys2Proof/Safety.lean ====
section
/-! DEFINITION. The terms in which claims about the core are made: safe steps and runs, the state that commands find and
leave, the invariant of the core, what the host can observe, and the published one-shot form of each digest to compare the
streaming commands with. Nothing here is part of the machine. -/

namespace Sys2Proof.Machine

/-- A step is safe when it answers a next state: the core never halts (60_exceptions.md R311). -/
def SafeStep (s : State) : Prop := ∃ t, step s = .next t

/-- `k` steps, stopping at the first one that answers no next state. -/
def steps : Nat → State → Host.Outcome State Fault Refusal
  | 0, s => .next s
  | k + 1, s =>
    match step s with
    | .next t => steps k t
    | .fault r => .fault r
    | .refused r => .refused r

/-- The commands of a list, one after the other, each complete before the next (20_memory.md R77). -/
def execAll : List Instr → State → Host.Outcome State Fault Refusal
  | [], s => .next s
  | i :: is, s =>
    match exec i s with
    | .next t => execAll is t
    | .fault r => .fault r
    | .refused r => .refused r

/-- No settling edge to come, no command in execution, no response held: the core can accept a command
(70_reset_and_hazards.md R340). -/
def Ready (s : State) : Prop := s.settling = false ∧ s.running = none ∧ s.rspq = none

/-- The host presents the word `w` on this edge, without reset (30_encoding.md R80). -/
def Presents (p : PortIn) (w : CmdWord) : Prop := p.rst = false ∧ p.cmdValid = true ∧ p.cmd = w

/-- The context of engine `e` is the same in both states. -/
def SameContext (e : Engine) (s t : State) : Prop :=
  match e with
  | .djb2 => t.djb2 = s.djb2
  | .md2 => t.md2 = s.md2
  | .md5 => t.md5 = s.md5
  | .sha1 => t.sha1 = s.sha1
  | .sha224 => t.sha224 = s.sha224
  | .sha256 => t.sha256 = s.sha256

/-- All six contexts are the same in both states. -/
def SameContexts (s t : State) : Prop := ∀ e, SameContext e s t

/-- The fields that no command touches at all: the hand-shake, the timing parameters, the host's inputs. -/
def SameShell (s t : State) : Prop :=
  t.running = s.running ∧ t.settling = s.settling ∧ t.lat = s.lat ∧ t.port = s.port

/-- `ERR` and `ERRCMD` are the same in both states. -/
def SameFaults (s t : State) : Prop := t.err = s.err ∧ t.errCmd = s.errCmd

/-- The context of engine `e` is in its initial state `Init(e)` (10_state.md R43). -/
def Initial (e : Engine) (s : State) : Prop := SameContext e State.reset s

/-- The response the host takes on the next edge (30_encoding.md R83), if any. -/
def takenNext (s : State) : Option Response :=
  if s.nextIn.rspReady then rspOut s.nextIn.rst s else none

/-- The responses the host takes during the next `k` edges, in order. -/
def responses : Nat → State → List Response
  | 0, _ => []
  | k + 1, s =>
    match step s with
    | .next t => (takenNext s).toList ++ responses k t
    | .fault _ => (takenNext s).toList
    | .refused _ => (takenNext s).toList

/-- The edges of a host that runs a program on a core with one edge for each command: it presents each word once, and
takes each response on the edge after. -/
def programEdges (ws : List CmdWord) : List PortIn :=
  ws.flatMap fun w =>
    if responds w then [PortIn.present w, { PortIn.idle with rspReady := true }] else [PortIn.present w]

/-- The same host right after reset: it first waits one edge (70_reset_and_hazards.md R334). -/
def hostEdges (ws : List CmdWord) : List PortIn := PortIn.idle :: programEdges ws

/-- The command-level run of a list of words, each complete, and its response taken, before the next
(20_memory.md R77): the last state, and the responses in order. -/
def runWords : List CmdWord → State → State × List Response
  | [], s => (s, [])
  | w :: ws, s =>
    match runWord w s with
    | .next t => ((runWords ws t.takeResponse).1, t.rspq.toList ++ (runWords ws t.takeResponse).2)
    | .fault _ => (s, [])
    | .refused _ => (s, [])

/-- The invariant of a context of the shared shape: before FINALIZE `LEN` counts whole blocks (43_md_shape.md R196), after
it no byte is buffered (R193). -/
def MdCtx.Inv {n : Nat} (c : MdCtx n) : Prop :=
  (c.done = false → c.len.toNat % 512 = 0) ∧ (c.done = true → c.fill = 0)

/-- The invariant of the core. `FILL` below the block size (10_state.md R28) holds by the types of the fields. -/
structure State.Inv (s : State) : Prop where
  /-- `ERRCMD` is written by faults only (10_state.md R31). -/
  errCmd_of_err : s.err = 0 → s.errCmd = 0
  /-- An error response is `(0x00, 1)` and only a fault makes one (30_encoding.md R96). -/
  error_response : ∀ r, s.rspq = some r → r.err = true → r.data = 0 ∧ s.err ≠ 0
  /-- A command in execution has edges left, and no response is held meanwhile (70_reset_and_hazards.md R340, R341). -/
  running_alone : ∀ r, s.running = some r → 1 ≤ r.left ∧ s.rspq = none
  /-- On the settling edge the core is as reset left it (70_reset_and_hazards.md R331). -/
  settling_reset : s.settling = true → s = { State.reset with lat := s.lat, port := s.port }
  /-- A finalized MD2 context buffers nothing (42_md2.md R164). -/
  md2_done : s.md2.done = true → s.md2.fill = 0
  md5_inv : s.md5.Inv
  sha1_inv : s.sha1.Inv
  sha224_inv : s.sha224.Inv
  sha256_inv : s.sha256.Inv

/-- Two MD2 contexts that no command can tell apart (10_state.md R36; 93_implementation_defined.md U12 to U14): the chaining
value counts always, the checksum and the buffered bytes only until FINALIZE. -/
def Md2Ctx.Alike (a b : Md2Ctx) : Prop :=
  a.done = b.done ∧ (∀ k : Fin 16, a.x[k.val] = b.x[k.val]) ∧
    (a.done = false → a.c = b.c ∧ a.fill = b.fill ∧ ∀ j : Fin 16, j < a.fill → a.b[j] = b.b[j])

/-- Two contexts of the shared shape that no command can tell apart (10_state.md R36; U13, U15): the state words count
always, the length and the buffered bytes only until FINALIZE. -/
def MdCtx.Alike {n : Nat} (a b : MdCtx n) : Prop :=
  a.done = b.done ∧ a.h = b.h ∧
    (a.done = false → a.len = b.len ∧ a.fill = b.fill ∧ ∀ j : Fin 64, j < a.fill → a.b[j] = b.b[j])

/-- Two states that differ at most in what the spec calls unobservable (10_state.md R36). -/
structure State.Alike (s t : State) : Prop where
  djb2 : s.djb2 = t.djb2
  md2 : s.md2.Alike t.md2
  md5 : s.md5.Alike t.md5
  sha1 : s.sha1.Alike t.sha1
  sha224 : s.sha224.Alike t.sha224
  sha256 : s.sha256.Alike t.sha256
  err : s.err = t.err
  errCmd : s.errCmd = t.errCmd
  rspq : s.rspq = t.rspq
  running : s.running = t.running
  settling : s.settling = t.settling
  lat : s.lat = t.lat
  port : s.port = t.port

/-- The first 64 bytes of a list as a block (missing bytes 0). -/
def blockOf (bytes : List Byte) : Block := Vector.ofFn fun k => bytes.getD k.val 0

/-- The first `n` 64-byte blocks of a list. -/
def blocksOf : Nat → List Byte → List Block
  | 0, _ => []
  | n + 1, bytes => blockOf bytes :: blocksOf n (bytes.drop 64)

/-- A bit count as eight bytes, least significant first (MD5's trailer) (20_memory.md R69). -/
def lengthBytesLE (v : BitCount) : List Byte := (List.range 8).map fun k => v.extractLsb' (8 * k) 8

/-- A bit count as eight bytes, most significant first (the SHA trailers) (20_memory.md R69). -/
def lengthBytesBE (v : BitCount) : List Byte := (List.range 8).map fun k => v.extractLsb' (56 - 8 * k) 8

/-- The padded message of 43_md_shape.md R200: the message, one `0x80` byte, the least number of zero bytes that leaves
room for the trailer in a whole number of 64-byte blocks, and the bit length of the message. -/
def padMessage (lengthBytes : BitCount → List Byte) (m : List Byte) : List Byte :=
  m ++ [0x80] ++ List.replicate ((119 - m.length % 64) % 64) 0 ++ lengthBytes (BitVec.ofNat 64 (8 * m.length))

/-- The one-shot construction: compress the blocks of the padded message in order from the initial words. -/
def oneShot {n : Nat} (compress : Vector Word n → Block → Vector Word n) (lengthBytes : BitCount → List Byte)
    (iv : Vector Word n) (m : List Byte) : Vector Word n :=
  (blocksOf ((padMessage lengthBytes m).length / 64) (padMessage lengthBytes m)).foldl compress iv

/-- The first 16 bytes of a list as an MD2 block (missing bytes 0). -/
def md2BlockOf (bytes : List Byte) : Md2Block := Vector.ofFn fun k => bytes.getD k.val 0

/-- The first `n` 16-byte blocks of a list. -/
def md2BlocksOf : Nat → List Byte → List Md2Block
  | 0, _ => []
  | n + 1, bytes => md2BlockOf bytes :: md2BlocksOf n (bytes.drop 16)

/-- The padded message of MD2 (42_md2.md R162): `N` bytes of value `N`, 1 to 16 of them. -/
def md2PadMessage (m : List Byte) : List Byte :=
  m ++ List.replicate (16 - m.length % 16) (BitVec.ofNat 8 (16 - m.length % 16))

/-- MD2 as the published algorithm builds it (42_md2.md R168): pad the message, run the checksum over all of it, append
the checksum as one more block, and only then load and mix every block. -/
def md2OneShot (m : List Byte) : Md2Work :=
  let blocks := md2BlocksOf ((md2PadMessage m).length / 16) (md2PadMessage m)
  let checksum := blocks.foldl md2Checksum (Vector.replicate 16 0)
  (blocks ++ [checksum]).foldl (fun x b => md2Mix (md2Load x b)) (Vector.replicate 48 0)

end Sys2Proof.Machine
end

