-- ==== Sys2Proof/Certificates/Slice0/Obligations.lean ====
section
/-! DEFINITION. The statements for the provers. The predicates of `Sys2Proof.Claims` spell out what a rule of the spec says
of a result, so that a statement can be read beside its rule; each obligation is a `def Obligations.<Name> : Prop`. -/

open Sys2Proof Sys2Proof.Machine

namespace Sys2Proof.Claims

/-- `Legal(w)`, the four clauses of 30_encoding.md R90 on the bits of the word. -/
def LegalWord (w : CmdWord) : Prop :=
  w.extractLsb' 13 3 ≤ 5 ∧ w.extractLsb' 10 3 ≤ 4 ∧ w.extractLsb' 8 2 = 0 ∧
    (w.extractLsb' 10 3 = 1 ∨ w.extractLsb' 10 3 = 3 ∨ w.extractLsb' 0 8 = 0)

/-- What 60_exceptions.md R300 writes for a fault of the given code by the word `w`, and that it writes nothing else. -/
def Faulted (code : Nat) (w : CmdWord) (s t : State) : Prop :=
  (∀ j < 4, t.err.getLsbD j = (s.err.getLsbD j || decide (j = code))) ∧
    t.errCmd = (if s.err = 0 then w else s.errCmd) ∧
    t.rspq = (if w.extractLsb' 10 3 = 3 ∨ w.extractLsb' 10 3 = 4 then some { data := 0x00, err := true } else s.rspq) ∧
    SameContexts s t ∧ SameShell s t

/-- `N_e`, the digest length in bytes of each engine (60_exceptions.md R304). -/
def digestLength : Engine → Nat
  | .djb2 => 4
  | .md2 => 16
  | .md5 => 16
  | .sha1 => 20
  | .sha224 => 28
  | .sha256 => 32

/-- The first check of 60_exceptions.md R308 that fails for the word `w`, by its code in R305. -/
def firstFault (w : CmdWord) (s : State) : Option Nat :=
  match decode w with
  | .error _ => some 0
  | .ok i =>
    if (i.op = .absorb ∨ (i.op = .finalize ∧ i.engine ≠ .djb2)) ∧ s.done i.engine = true then some 1
    else if i.op = .rdig ∧ s.done i.engine = false then some 2
    else if i.op = .rdig ∧ digestLength i.engine ≤ i.imm8.toNat then some 3
    else none

/-- The context that ABSORB of `d` leaves (43_md_shape.md R191). -/
def MdAbsorbed {n : Nat} (compress : Vector Word n → Block → Vector Word n) (d : Byte) (c c' : MdCtx n) : Prop :=
  (∀ h : c.fill.val + 1 < 64, c' = { c with b := c.b.set c.fill d, fill := ⟨c.fill.val + 1, h⟩ }) ∧
    (c.fill.val + 1 = 64 →
      c' = { c with h := compress c.h (c.b.set c.fill d), b := c.b.set c.fill d, len := c.len + 512, fill := 0 })

/-- Byte `k` of the trailer that `PutLE64` writes (20_memory.md R69). -/
def trailerLE (v : BitCount) (k : Nat) : Byte := v.extractLsb' (8 * k) 8

/-- Byte `k` of the trailer that `PutBE64` writes (20_memory.md R69). -/
def trailerBE (v : BitCount) (k : Nat) : Byte := v.extractLsb' (56 - 8 * k) 8

/-- The context that FINALIZE leaves (43_md_shape.md R193, R194, R195): one compression when `FILL ≤ 55`, else two. -/
def MdFinalized {n : Nat} (compress : Vector Word n → Block → Vector Word n) (trailer : BitCount → Nat → Byte)
    (c c' : MdCtx n) : Prop :=
  c'.len = c.len + BitVec.ofNat 64 (8 * c.fill.val) ∧ c'.fill = 0 ∧ c'.done = true ∧
    (c.fill.val ≤ 55 →
      (∀ j : Fin 64, c'.b[j.val] =
        if j < c.fill then c.b[j.val] else if j = c.fill then 0x80 else if j.val < 56 then 0x00
        else trailer c'.len (j.val - 56)) ∧
      c'.h = compress c.h c'.b) ∧
    (56 ≤ c.fill.val →
      (∀ j : Fin 64, c'.b[j.val] = if j.val < 56 then 0x00 else trailer c'.len (j.val - 56)) ∧
      ∃ first : Block,
        (∀ j : Fin 64, first[j.val] = if j < c.fill then c.b[j.val] else if j = c.fill then 0x80 else 0x00) ∧
        c'.h = compress (compress c.h first) c'.b)

/-- What the RDIG of that base word does on a context with that `DONE`, for a digest of `n` bytes whose byte `k` is the one `IsByte k` holds of. -/
def ReadsDigest (rdig : Byte → Instr) (word : CmdWord) (done : Bool) (n : Nat) (IsByte : Nat → Byte → Prop) (s : State) : Prop :=
  ∀ k : Byte,
    encode (rdig k) = word ||| k.setWidth 16 ∧
    (done = false → ∃ t, exec (rdig k) s = .next t ∧ Faulted 2 (encode (rdig k)) s t) ∧
    (done = true → n ≤ k.toNat → ∃ t, exec (rdig k) s = .next t ∧ Faulted 3 (encode (rdig k)) s t) ∧
    (done = true → k.toNat < n →
      ∃ d, IsByte k.toNat d ∧ exec (rdig k) s = .next { s with rspq := some { data := d, err := false } })

/-- Digest byte `4k+j` of state words read little-endian (20_memory.md R70). -/
def ByteLE {n : Nat} (h : Vector Word n) (i : Nat) (d : Byte) : Prop :=
  ∀ (k : Fin n) (j : Fin 4), i = 4 * k.val + j.val → d = h[k.val].extractLsb' (8 * j.val) 8

/-- Digest byte `4k+j` of state words read big-endian (20_memory.md R70). -/
def ByteBE {n : Nat} (h : Vector Word n) (i : Nat) (d : Byte) : Prop :=
  ∀ (k : Fin n) (j : Fin 4), i = 4 * k.val + j.val → d = h[k.val].extractLsb' (24 - 8 * j.val) 8

/-- The status byte of 47_status.md R295, bit by bit. -/
def IsStatus (s : State) (e : Engine) (d : Byte) : Prop :=
  d.getLsbD 0 = s.done e ∧ (∀ k < 4, d.getLsbD (k + 1) = s.err.getLsbD k) ∧
    d.getLsbD 5 = false ∧ d.getLsbD 6 = false ∧ d.getLsbD 7 = false

/-- The mixer written with indices as 42_md2.md R154 writes it. -/
def mixByIndex (x : Md2Work) : Md2Work :=
  ((List.range 18).foldl (fun (q : Md2Work × Byte) r =>
    let p := (List.finRange 48).foldl (fun (q : Md2Work × Byte) (k : Fin 48) =>
      (q.1.set k (q.1[k.val] ^^^ romS q.2), q.1[k.val] ^^^ romS q.2)) q
    (p.1, p.2 + BitVec.ofNat 8 r)) (x, 0)).1

/-- The checksum stage written with indices as 42_md2.md R156 writes it. -/
def checksumByIndex (sum m : Md2Block) : Md2Block :=
  ((List.finRange 16).foldl (fun (q : Md2Block × Byte) (j : Fin 16) =>
    (q.1.set j (q.1[j.val] ^^^ romS (m[j.val] ^^^ q.2)), q.1[j.val] ^^^ romS (m[j.val] ^^^ q.2))) (sum, sum[15])).1

/-- A whole message on engine `e`: INIT, its bytes, FINALIZE. -/
def messageProgram (e : Engine) (m : List Byte) : List Instr :=
  [Instr.of e .init 0] ++ absorbsProgram e m ++ [Instr.of e .finalize 0]

end Sys2Proof.Claims

open Sys2Proof.Claims

/-- Every word of the command map decodes to its command (R93). -/
def Obligations.CommandMapDecodes : Prop :=
  ∀ b : Byte,
    decode 0x0000 = .ok .djb2Init ∧
    decode (0x0400 ||| b.setWidth 16) = .ok (.djb2Absorb b) ∧
    decode 0x0800 = .ok .djb2Finalize ∧
    decode (0x0C00 ||| b.setWidth 16) = .ok (.djb2Rdig b) ∧
    decode 0x1000 = .ok .djb2Rstat ∧
    decode 0x2000 = .ok .md2Init ∧
    decode (0x2400 ||| b.setWidth 16) = .ok (.md2Absorb b) ∧
    decode 0x2800 = .ok .md2Finalize ∧
    decode (0x2C00 ||| b.setWidth 16) = .ok (.md2Rdig b) ∧
    decode 0x3000 = .ok .md2Rstat ∧
    decode 0x4000 = .ok .md5Init ∧
    decode (0x4400 ||| b.setWidth 16) = .ok (.md5Absorb b) ∧
    decode 0x4800 = .ok .md5Finalize ∧
    decode (0x4C00 ||| b.setWidth 16) = .ok (.md5Rdig b) ∧
    decode 0x5000 = .ok .md5Rstat ∧
    decode 0x6000 = .ok .sha1Init ∧
    decode (0x6400 ||| b.setWidth 16) = .ok (.sha1Absorb b) ∧
    decode 0x6800 = .ok .sha1Finalize ∧
    decode (0x6C00 ||| b.setWidth 16) = .ok (.sha1Rdig b) ∧
    decode 0x7000 = .ok .sha1Rstat ∧
    decode 0x8000 = .ok .sha224Init ∧
    decode (0x8400 ||| b.setWidth 16) = .ok (.sha224Absorb b) ∧
    decode 0x8800 = .ok .sha224Finalize ∧
    decode (0x8C00 ||| b.setWidth 16) = .ok (.sha224Rdig b) ∧
    decode 0x9000 = .ok .sha224Rstat ∧
    decode 0xA000 = .ok .sha256Init ∧
    decode (0xA400 ||| b.setWidth 16) = .ok (.sha256Absorb b) ∧
    decode 0xA800 = .ok .sha256Finalize ∧
    decode (0xAC00 ||| b.setWidth 16) = .ok (.sha256Rdig b) ∧
    decode 0xB000 = .ok .sha256Rstat

/-- Decoding the word of an instruction gives the instruction back (30_encoding.md R91, 30_encoding.md R93). -/
def Obligations.DecodeOfEncode : Prop :=
  ∀ i : Instr, decode (encode i) = .ok i

/-- Decode is Illegal exactly on illegal words, reads the fields, and is one-to-one (R91). -/
def Obligations.DecodeIsTotalAndOneToOne : Prop :=
  (∀ w : CmdWord,
    match decode w with
    | .ok i => LegalWord w ∧ i.engine.code = w.extractLsb' 13 3 ∧ i.op.code = w.extractLsb' 10 3 ∧
        i.imm8 = w.extractLsb' 0 8
    | .error _ => ¬ LegalWord w) ∧
  (∀ i : Instr, ∃! w : CmdWord, decode w = .ok i)

/-- The four reserved spaces are rejected by name and are disjoint (30_encoding.md R94, 30_encoding.md R90). -/
def Obligations.ReservedWordsAreNamed : Prop :=
  ∀ w : CmdWord,
    (decode w = .error .engine ↔ 6 ≤ w.extractLsb' 13 3) ∧
    (decode w = .error .operation ↔ w.extractLsb' 13 3 ≤ 5 ∧ 5 ≤ w.extractLsb' 10 3) ∧
    (decode w = .error .rsvField ↔ w.extractLsb' 13 3 ≤ 5 ∧ w.extractLsb' 10 3 ≤ 4 ∧ w.extractLsb' 8 2 ≠ 0) ∧
    (decode w = .error .immField ↔ w.extractLsb' 13 3 ≤ 5 ∧ w.extractLsb' 10 3 ≤ 4 ∧ w.extractLsb' 8 2 = 0 ∧
      (w.extractLsb' 10 3 = 0 ∨ w.extractLsb' 10 3 = 2 ∨ w.extractLsb' 10 3 = 4) ∧ w.extractLsb' 0 8 ≠ 0)

/-- INIT of each engine writes its initial state, in every state (R130, R159, R190, R222, R252, R282, R286). -/
def Obligations.InitStartsANewMessage : Prop :=
  [encode .djb2Init, encode .md2Init, encode .md5Init, encode .sha1Init, encode .sha224Init, encode .sha256Init] =
    [0x0000, 0x2000, 0x4000, 0x6000, 0x8000, 0xA000] ∧
  ∀ s : State,
    exec .djb2Init s = .next { s with djb2 := { h := 0x00001505, done := false } } ∧
    exec .md2Init s = .next { s with md2 :=
      { x := Vector.replicate 48 0, c := Vector.replicate 16 0, b := Vector.replicate 16 0, fill := 0, done := false } } ∧
    exec .md5Init s = .next { s with md5 :=
      { h := #v[0x67452301, 0xEFCDAB89, 0x98BADCFE, 0x10325476],
        b := Vector.replicate 64 0, fill := 0, len := 0, done := false } } ∧
    exec .sha1Init s = .next { s with sha1 :=
      { h := #v[0x67452301, 0xEFCDAB89, 0x98BADCFE, 0x10325476, 0xC3D2E1F0],
        b := Vector.replicate 64 0, fill := 0, len := 0, done := false } } ∧
    exec .sha224Init s = .next { s with sha224 :=
      { h := #v[0xC1059ED8, 0x367CD507, 0x3070DD17, 0xF70E5939, 0xFFC00B31, 0x68581511, 0x64F98FA7, 0xBEFA4FA4],
        b := Vector.replicate 64 0, fill := 0, len := 0, done := false } } ∧
    exec .sha256Init s = .next { s with sha256 :=
      { h := #v[0x6A09E667, 0xBB67AE85, 0x3C6EF372, 0xA54FF53A, 0x510E527F, 0x9B05688C, 0x1F83D9AB, 0x5BE0CD19],
        b := Vector.replicate 64 0, fill := 0, len := 0, done := false } }

/-- djb2.absorb multiplies by 33 and adds the zero-extended byte, or faults Spent (R131). -/
def Obligations.Djb2AbsorbResult : Prop :=
  ∀ (b : Byte) (s : State),
    encode (.djb2Absorb b) = 0x0400 ||| b.setWidth 16 ∧
    (s.djb2.done = false →
      exec (.djb2Absorb b) s = .next { s with djb2 := { s.djb2 with h := s.djb2.h * 33 + b.zeroExtend 32 } } ∧
      s.djb2.h * 33 + b.zeroExtend 32 = (s.djb2.h <<< 5) + s.djb2.h + b.zeroExtend 32) ∧
    (s.djb2.done = true → ∃ t, exec (.djb2Absorb b) s = .next t ∧ Faulted 1 (encode (.djb2Absorb b)) s t)

/-- md2.absorb stores the byte and transforms a full block, or faults Spent (R160). -/
def Obligations.Md2AbsorbResult : Prop :=
  ∀ (d : Byte) (s : State),
    encode (.md2Absorb d) = 0x2400 ||| d.setWidth 16 ∧
    (s.md2.done = false → ∀ h : s.md2.fill.val + 1 < 16,
      exec (.md2Absorb d) s =
        .next { s with md2 := { s.md2 with b := s.md2.b.set s.md2.fill d, fill := ⟨s.md2.fill.val + 1, h⟩ } }) ∧
    (s.md2.done = false → s.md2.fill.val + 1 = 16 →
      exec (.md2Absorb d) s =
        .next { s with md2 := { s.md2 with
          x := (md2Transform s.md2.x s.md2.c (s.md2.b.set s.md2.fill d)).1,
          c := (md2Transform s.md2.x s.md2.c (s.md2.b.set s.md2.fill d)).2,
          b := s.md2.b.set s.md2.fill d, fill := 0 } }) ∧
    (s.md2.done = true → ∃ t, exec (.md2Absorb d) s = .next t ∧ Faulted 1 (encode (.md2Absorb d)) s t)

/-- ABSORB on MD5, SHA-1, SHA-224, SHA-256: store, count, compress a full block, or fault Spent (R191, R223, R253, R283, R287). -/
def Obligations.MdAbsorbResults : Prop :=
  ∀ (d : Byte) (s : State),
    encode (.md5Absorb d) = 0x4400 ||| d.setWidth 16 ∧
    (s.md5.done = false →
      ∃ c, MdAbsorbed compressMd5 d s.md5 c ∧ exec (.md5Absorb d) s = .next { s with md5 := c }) ∧
    (s.md5.done = true → ∃ t, exec (.md5Absorb d) s = .next t ∧ Faulted 1 (encode (.md5Absorb d)) s t) ∧
    encode (.sha1Absorb d) = 0x6400 ||| d.setWidth 16 ∧
    (s.sha1.done = false →
      ∃ c, MdAbsorbed compressSha1 d s.sha1 c ∧ exec (.sha1Absorb d) s = .next { s with sha1 := c }) ∧
    (s.sha1.done = true → ∃ t, exec (.sha1Absorb d) s = .next t ∧ Faulted 1 (encode (.sha1Absorb d)) s t) ∧
    encode (.sha224Absorb d) = 0x8400 ||| d.setWidth 16 ∧
    (s.sha224.done = false →
      ∃ c, MdAbsorbed compressSha2 d s.sha224 c ∧ exec (.sha224Absorb d) s = .next { s with sha224 := c }) ∧
    (s.sha224.done = true → ∃ t, exec (.sha224Absorb d) s = .next t ∧ Faulted 1 (encode (.sha224Absorb d)) s t) ∧
    encode (.sha256Absorb d) = 0xA400 ||| d.setWidth 16 ∧
    (s.sha256.done = false →
      ∃ c, MdAbsorbed compressSha2 d s.sha256 c ∧ exec (.sha256Absorb d) s = .next { s with sha256 := c }) ∧
    (s.sha256.done = true → ∃ t, exec (.sha256Absorb d) s = .next t ∧ Faulted 1 (encode (.sha256Absorb d)) s t)

/-- djb2.finalize sets DONE, keeps H, and is no fault when repeated (R133). -/
def Obligations.Djb2FinalizeResult : Prop :=
  encode .djb2Finalize = 0x0800 ∧
  ∀ s : State,
    exec .djb2Finalize s = .next { s with djb2 := { h := s.djb2.h, done := true } } ∧
    (s.djb2.done = true → exec .djb2Finalize s = .next s)

/-- md2.finalize pads with N bytes of value N, then transforms the pad block and a copy of the checksum (R161, R162, R163). -/
def Obligations.Md2FinalizeResult : Prop :=
  encode .md2Finalize = 0x2800 ∧
  ∀ s : State,
    (s.md2.done = false → ∃ m : Md2Block,
      (∀ j : Fin 16, m[j.val] = if j < s.md2.fill then s.md2.b[j.val] else BitVec.ofNat 8 (16 - s.md2.fill.val)) ∧
      1 ≤ 16 - s.md2.fill.val ∧ 16 - s.md2.fill.val ≤ 16 ∧
      exec .md2Finalize s = .next { s with md2 :=
        { x := (md2Transform (md2Transform s.md2.x s.md2.c m).1 (md2Transform s.md2.x s.md2.c m).2
            (md2Transform s.md2.x s.md2.c m).2).1,
          c := (md2Transform (md2Transform s.md2.x s.md2.c m).1 (md2Transform s.md2.x s.md2.c m).2
            (md2Transform s.md2.x s.md2.c m).2).2,
          b := (md2Transform s.md2.x s.md2.c m).2, fill := 0, done := true } }) ∧
    (s.md2.done = true → ∃ t, exec .md2Finalize s = .next t ∧ Faulted 1 (encode .md2Finalize) s t)

/-- FINALIZE on MD5, SHA-1, SHA-224, SHA-256: padding, length trailer, one or two compressions, or Spent (R193, R224, R254, R284, R288). -/
def Obligations.MdFinalizeResults : Prop :=
  [encode .md5Finalize, encode .sha1Finalize, encode .sha224Finalize, encode .sha256Finalize] =
    [0x4800, 0x6800, 0x8800, 0xA800] ∧
  ∀ s : State,
    (s.md5.done = false →
      ∃ c, MdFinalized compressMd5 trailerLE s.md5 c ∧ exec .md5Finalize s = .next { s with md5 := c }) ∧
    (s.md5.done = true → ∃ t, exec .md5Finalize s = .next t ∧ Faulted 1 (encode .md5Finalize) s t) ∧
    (s.sha1.done = false →
      ∃ c, MdFinalized compressSha1 trailerBE s.sha1 c ∧ exec .sha1Finalize s = .next { s with sha1 := c }) ∧
    (s.sha1.done = true → ∃ t, exec .sha1Finalize s = .next t ∧ Faulted 1 (encode .sha1Finalize) s t) ∧
    (s.sha224.done = false →
      ∃ c, MdFinalized compressSha2 trailerBE s.sha224 c ∧ exec .sha224Finalize s = .next { s with sha224 := c }) ∧
    (s.sha224.done = true → ∃ t, exec .sha224Finalize s = .next t ∧ Faulted 1 (encode .sha224Finalize) s t) ∧
    (s.sha256.done = false →
      ∃ c, MdFinalized compressSha2 trailerBE s.sha256 c ∧ exec .sha256Finalize s = .next { s with sha256 := c }) ∧
    (s.sha256.done = true → ∃ t, exec .sha256Finalize s = .next t ∧ Faulted 1 (encode .sha256Finalize) s t)

/-- djb2.rdig and md2.rdig answer digest byte i, or fault NotDone, or fault Range (R135, R136, R165, R166). -/
def Obligations.RdigOfDjb2AndMd2 : Prop :=
  ∀ s : State,
    ReadsDigest .djb2Rdig 0x0C00 s.djb2.done 4 (fun i d => d = s.djb2.h.extractLsb' (24 - 8 * i) 8) s ∧
    ReadsDigest .md2Rdig 0x2C00 s.md2.done 16 (fun i d => ∀ k : Fin 16, i = k.val → d = s.md2.x[k.val]) s

/-- md5.rdig answers a little-endian digest byte, or faults (R221, R225). -/
def Obligations.RdigOfMd5 : Prop :=
  ∀ s : State, ReadsDigest .md5Rdig 0x4C00 s.md5.done 16 (ByteLE s.md5.h) s

/-- sha1.rdig, sha224.rdig and sha256.rdig answer a big-endian digest byte, or fault (R251, R255, R281, R285, R289). -/
def Obligations.RdigOfSha : Prop :=
  ∀ s : State,
    ReadsDigest .sha1Rdig 0x6C00 s.sha1.done 20 (ByteBE s.sha1.h) s ∧
    ReadsDigest .sha224Rdig 0x8C00 s.sha224.done 28 (ByteBE s.sha224.h) s ∧
    ReadsDigest .sha256Rdig 0xAC00 s.sha256.done 32 (ByteBE s.sha256.h) s

/-- RSTAT of each engine responds with its status byte and changes nothing else (R295, R296). -/
def Obligations.RstatResults : Prop :=
  [encode .djb2Rstat, encode .md2Rstat, encode .md5Rstat, encode .sha1Rstat, encode .sha224Rstat, encode .sha256Rstat] =
    [0x1000, 0x3000, 0x5000, 0x7000, 0x9000, 0xB000] ∧
  ∀ s : State,
    (∀ w : CmdWord, w.extractLsb' 10 3 = 4 → ¬ LegalWord w → ∃ t, runWord w s = .next t ∧ Faulted 0 w s t) ∧
    (∃ d, IsStatus s .djb2 d ∧ exec .djb2Rstat s = .next { s with rspq := some { data := d, err := false } }) ∧
    (∃ d, IsStatus s .md2 d ∧ exec .md2Rstat s = .next { s with rspq := some { data := d, err := false } }) ∧
    (∃ d, IsStatus s .md5 d ∧ exec .md5Rstat s = .next { s with rspq := some { data := d, err := false } }) ∧
    (∃ d, IsStatus s .sha1 d ∧ exec .sha1Rstat s = .next { s with rspq := some { data := d, err := false } }) ∧
    (∃ d, IsStatus s .sha224 d ∧ exec .sha224Rstat s = .next { s with rspq := some { data := d, err := false } }) ∧
    (∃ d, IsStatus s .sha256 d ∧ exec .sha256Rstat s = .next { s with rspq := some { data := d, err := false } })

/-- Taking a fault: ERRCMD of the first one, the bit of ERR, the error response, nothing else (R300). -/
def Obligations.FaultEntry : Prop :=
  ∀ (w : CmdWord) (s : State),
    Faulted 0 w s (takeFault .illegal w s) ∧ Faulted 1 w s (takeFault .spent w s) ∧
    Faulted 2 w s (takeFault .notDone w s) ∧ Faulted 3 w s (takeFault .range w s) ∧
    ∀ k, errOut (takeFault k w s) = true

/-- Every word answers a next state, with the first fault that applies and no other (R301, R302, R303, R304, R308). -/
def Obligations.FaultPriority : Prop :=
  ∀ (w : CmdWord) (s : State), ∃ t, runWord w s = .next t ∧
    match firstFault w s with
    | some code => Faulted code w s t
    | none => SameFaults s t

/-- A word is answered exactly when its OP field is 3 or 4; a faulting one with (0x00, 1) (30_encoding.md R96). -/
def Obligations.ResponseExactlyWhenShaped : Prop :=
  ∀ (w : CmdWord) (s t : State), s.rspq = none → runWord w s = .next t →
    (t.rspq.isSome = true ↔ w.extractLsb' 10 3 = 3 ∨ w.extractLsb' 10 3 = 4) ∧
    ∀ r, t.rspq = some r →
      ((firstFault w s).isSome = true → r = { data := 0x00, err := true }) ∧ (firstFault w s = none → r.err = false)

/-- Without reset no step clears a bit of ERR, or changes ERRCMD once ERR is not 0 (10_state.md R30, 10_state.md R31, 60_exceptions.md R312). -/
def Obligations.FaultRegistersAreSticky : Prop :=
  ∀ s t : State, s.nextIn.rst = false → step s = .next t →
    (∀ j, s.err.getLsbD j = true → t.err.getLsbD j = true) ∧ (s.err ≠ 0 → t.errCmd = s.errCmd)

/-- What each command leaves unchanged (10_state.md R33, 47_status.md R297, 20_memory.md R73). -/
def Obligations.FrameOfEveryCommand : Prop :=
  ∀ (i : Instr) (s t : State), exec i s = .next t →
    SameShell s t ∧
    (∀ e, e ≠ i.engine → SameContext e s t) ∧
    (i.op = .rdig ∨ i.op = .rstat → SameContexts s t) ∧
    (i.op = .init ∨ i.op = .absorb ∨ i.op = .finalize → t.rspq = s.rspq) ∧
    (i.op = .init ∨ i.op = .rstat ∨ i = .djb2Finalize → SameFaults s t) ∧
    (i.op = .absorb → t.done i.engine = s.done i.engine)

/-- Only INIT clears a DONE bit and only FINALIZE sets one, each its own (10_state.md R29). -/
def Obligations.DoneChangesOnlyByInitAndFinalize : Prop :=
  ∀ (i : Instr) (s t : State) (e : Engine), exec i s = .next t → t.done e ≠ s.done e →
    i.engine = e ∧ ((i.op = .init ∧ t.done e = false) ∨ (i.op = .finalize ∧ t.done e = true))

/-- An engine's context depends only on its own commands, however they are interleaved (R297). -/
def Obligations.EngineIsolation : Prop :=
  (∀ (i : Instr) (s t : State) (e : Engine), e ≠ i.engine → exec i s = .next t → SameContext e s t) ∧
  (∀ (is : List Instr) (e : Engine) (s s' : State), SameContext e s s' →
    ∃ t t', execAll is s = .next t ∧ execAll (is.filter fun i => decide (i.engine = e)) s' = .next t' ∧
      SameContext e t t') ∧
  (∀ (i : Instr) (s s' : State), SameContext i.engine s s' → SameFaults s s' → s'.rspq = s.rspq →
    ∃ t t', exec i s = .next t ∧ exec i s' = .next t' ∧
      SameContext i.engine t t' ∧ SameFaults t t' ∧ t'.rspq = t.rspq)

/-- Only a completing RDIG shows anything of a context but its DONE bit (10_state.md R34). -/
def Obligations.ContextsAreOpaque : Prop :=
  ∀ (i : Instr) (s s' : State), (∀ e, s'.done e = s.done e) → SameFaults s s' → s'.rspq = s.rspq →
    (i.op = .rdig → s.done i.engine = true → digestLength i.engine ≤ i.imm8.toNat) →
    ∃ t t', exec i s = .next t ∧ exec i s' = .next t' ∧
      t'.rspq = t.rspq ∧ SameFaults t t' ∧ ∀ e, t'.done e = t.done e

/-- RDIG and RSTAT have no side effect: repeated, they answer the same (20_memory.md R73). -/
def Obligations.ReadsRepeat : Prop :=
  ∀ (i : Instr) (s : State), i.op = .rdig ∨ i.op = .rstat →
    ∃ t, exec i s = .next t ∧ exec i t.takeResponse = .next t

/-- A step that accepts a word runs its command, or faults Illegal (30_encoding.md R92). The step as one edge and the number of edges of a command are log entries 1, 2 and 13. -/
def Obligations.StepRunsTheDecodedCommand : Prop :=
  (∀ (s : State) (p : PortIn) (rest : List PortIn) (w : CmdWord),
    Ready s → s.port = p :: rest → Presents p w → edgesOf w s ≤ 1 →
    (∀ i, decode w = .ok i → step s = exec i (s.setPort rest)) ∧
    (¬ LegalWord w → ∃ t, step s = .next t ∧ Faulted 0 w (s.setPort rest) t)) ∧
  (∀ (s : State) (w : CmdWord),
    (∀ i, decode w = .ok i → runWord w s = exec i s) ∧
    (¬ LegalWord w → ∃ t, runWord w s = .next t ∧ Faulted 0 w s t))

/-- A word placed by withFetchWord is run by the very next step (00_scope.md R10, 30_encoding.md R92). How a program comes to run is the model's choice, log entry 6. -/
def Obligations.FetchWordRunsNext : Prop :=
  ∀ (s : State) (w : CmdWord),
    step (s.withFetchWord 16 w.toNat) =
      runWord w { s with settling := false, running := none, rspq := none, lat := Latency.unit }

/-- A command of L edges writes on its L-th edge and holds the core until then (70_reset_and_hazards.md R340, 70_reset_and_hazards.md R345). The inputs as a list, the parameters as a field and the number of edges are log entries 1, 2 and 13. -/
def Obligations.CommandTakesItsEdges : Prop :=
  ∀ (s : State) (w : CmdWord) (p : PortIn) (ps rest : List PortIn),
    Ready s → s.port = p :: ps ++ rest → Presents p w → (∀ q ∈ ps, q.rst = false) →
    ps.length + 1 = max 1 (edgesOf w s) →
    steps (ps.length + 1) s = runWord w (s.setPort rest) ∧
    ∀ k, 1 ≤ k → k ≤ ps.length →
      ∃ t, steps k s = .next t ∧ cmdReady false t = false ∧ SameContexts s t ∧ SameFaults s t ∧ t.rspq = none

/-- A word presented while cmd_ready = 0 has no effect; while it is 1, it is accepted (30_encoding.md R80). The settling edge, on which cmd_ready is 0, is log entry 3. -/
def Obligations.UnacceptedWordHasNoEffect : Prop :=
  (∀ (p q : PortIn) (s : State), p.rst = q.rst → p.rspReady = q.rspReady → cmdReady p.rst s = false →
    edge p s = edge q s) ∧
  (∀ (p : PortIn) (s : State), cmdReady p.rst s = true → p.cmdValid = true → edge p s = accept p.cmd s)

/-- A held response stays until the host takes it, and holds off every command (70_reset_and_hazards.md R341, 30_encoding.md R83). The host as a list of inputs is log entry 1. -/
def Obligations.HeldResponseIsNeverLost : Prop :=
  ∀ (s : State) (r : Response), s.Inv → s.rspq = some r → s.nextIn.rst = false →
    cmdReady false s = false ∧
    step s = .next (if s.nextIn.rspReady then s.advance.takeResponse else s.advance)

/-- Edge by edge through the ports, a program does exactly what its commands do in order (20_memory.md R77, 30_encoding.md R83, 70_reset_and_hazards.md R340, 70_reset_and_hazards.md R341). The host as a list of inputs and one edge for each command are the model's choice, log entries 1 and 2. -/
def Obligations.HostRunIsTheCommandRun : Prop :=
  ∀ (ws : List CmdWord) (s : State) (rest : List PortIn),
    Ready s → s.lat = Latency.unit → s.port = programEdges ws ++ rest →
    steps (programEdges ws).length s = .next ((runWords ws s).1.setPort rest) ∧
    responses (programEdges ws).length s = (runWords ws s).2

/-- A rising edge with rst = 1 puts every register at its reset value, from any state (R44, R330). -/
def Obligations.ResetEdgeResult : Prop :=
  (∀ s : State, s.nextIn.rst = true →
    ∃ t, step s = .next t ∧
      t.djb2 = { h := 0x00001505, done := false } ∧
      t.md2 = { x := Vector.replicate 48 0, c := Vector.replicate 16 0, b := Vector.replicate 16 0, fill := 0,
                done := false } ∧
      t.md5 = { h := #v[0x67452301, 0xEFCDAB89, 0x98BADCFE, 0x10325476],
                b := Vector.replicate 64 0, fill := 0, len := 0, done := false } ∧
      t.sha1 = { h := #v[0x67452301, 0xEFCDAB89, 0x98BADCFE, 0x10325476, 0xC3D2E1F0],
                 b := Vector.replicate 64 0, fill := 0, len := 0, done := false } ∧
      t.sha224 = { h := #v[0xC1059ED8, 0x367CD507, 0x3070DD17, 0xF70E5939, 0xFFC00B31, 0x68581511, 0x64F98FA7,
                     0xBEFA4FA4],
                   b := Vector.replicate 64 0, fill := 0, len := 0, done := false } ∧
      t.sha256 = { h := #v[0x6A09E667, 0xBB67AE85, 0x3C6EF372, 0xA54FF53A, 0x510E527F, 0x9B05688C, 0x1F83D9AB,
                     0x5BE0CD19],
                   b := Vector.replicate 64 0, fill := 0, len := 0, done := false } ∧
      t.err = 0 ∧ t.errCmd = 0 ∧ t.rspq = none ∧ t.running = none) ∧
  (∀ s t : State, step s = .next t → s.err ≠ 0 → t.err = 0 ∨ t.errCmd ≠ s.errCmd → s.nextIn.rst = true)

/-- While rst = 1 nothing is ready or valid; the first edge without it leaves the core idle and ready (70_reset_and_hazards.md R331). The settling edge and rsp_valid under rst are read from R331, log entries 3 and 4. -/
def Obligations.SettlingEdge : Prop :=
  (∀ (p : PortIn) (s : State), p.rst = true →
    cmdReady true s = false ∧ rspValid true s = false ∧ edge p s = .next s.resetEdge) ∧
  (∀ (p : PortIn) (s : State), p.rst = false →
    edge p s.resetEdge = .next { s.resetEdge with settling := false } ∧
    Ready { s.resetEdge with settling := false } ∧ cmdReady false { s.resetEdge with settling := false } = true)

/-- The invariant holds at reset (10_state.md R44). -/
def Obligations.InvariantAtReset : Prop :=
  State.reset.Inv

/-- Every step keeps the invariant of the core (10_state.md R31, 10_state.md R32, 43_md_shape.md R196, 70_reset_and_hazards.md R340, 70_reset_and_hazards.md R341). The clause on the settling edge is log entry 3. -/
def Obligations.StepKeepsTheInvariant : Prop :=
  ∀ s t : State, s.Inv → step s = .next t → t.Inv

/-- The core never halts: every step answers a next state (60_exceptions.md R311). That nothing stops the machine is log entry 9. -/
def Obligations.NoStepStops : Prop :=
  ∀ s : State, SafeStep s

/-- MD2 X[16..47] and the buffer bytes at and above FILL never influence anything (10_state.md R36, 93_implementation_defined.md U12, 93_implementation_defined.md U13, 93_implementation_defined.md U14, 93_implementation_defined.md U15). What those fields hold is log entry 7. -/
def Obligations.UnobservableStateStaysUnobserved : Prop :=
  ∀ s t : State, s.Alike t →
    ∃ s' t', step s = .next s' ∧ step t = .next t' ∧ s'.Alike t' ∧
      errOut s' = errOut t' ∧ errCmdOut s' = errCmdOut t' ∧
      ∀ rst, cmdReady rst s' = cmdReady rst t' ∧ rspOut rst s' = rspOut rst t'

/-- err is ERR not 0, err_cmd is ERRCMD (R82). -/
def Obligations.OutputsShowTheRegisters : Prop :=
  ∀ s : State, (errOut s = true ↔ s.err ≠ 0) ∧ errCmdOut s = s.errCmd

/-- Absorbing a byte sequence folds H*33 + b over it (41_djb2.md R132). The spec marks R132 as derived. -/
def Obligations.Djb2AbsorbFolds : Prop :=
  ∀ (bs : List Byte) (s : State), s.djb2.done = false →
    ∃ t, execAll (absorbsProgram .djb2 bs) s = .next t ∧
      t.djb2 = { h := bs.foldl (fun h b => h * 33 + b.setWidth 32) s.djb2.h, done := false }

/-- MD5, SHA-1, SHA-224 and SHA-256 by commands equal the one-shot padded construction (43_md_shape.md R191, 43_md_shape.md R193, 43_md_shape.md R194, 43_md_shape.md R195, 43_md_shape.md R200). -/
def Obligations.MdStreamIsOneShot : Prop :=
  ∀ (m : List Byte) (s : State),
    (∃ t, execAll (messageProgram .md5 m) s = .next t ∧ t.md5.done = true ∧
      t.md5.h = oneShot compressMd5 lengthBytesLE ivMd5 m) ∧
    (∃ t, execAll (messageProgram .sha1 m) s = .next t ∧ t.sha1.done = true ∧
      t.sha1.h = oneShot compressSha1 lengthBytesBE ivSha1 m) ∧
    (∃ t, execAll (messageProgram .sha224 m) s = .next t ∧ t.sha224.done = true ∧
      t.sha224.h = oneShot compressSha2 lengthBytesBE ivSha224 m) ∧
    (∃ t, execAll (messageProgram .sha256 m) s = .next t ∧ t.sha256.done = true ∧
      t.sha256.h = oneShot compressSha2 lengthBytesBE ivSha256 m)

/-- MD2 by commands equals the published padded-message-and-checksum construction (42_md2.md R168). The spec marks R168 as derived, and as general knowledge where it names RFC 1319. -/
def Obligations.Md2StreamIsOneShot : Prop :=
  ∀ (m : List Byte) (s : State),
    ∃ t, execAll (messageProgram .md2 m) s = .next t ∧ t.md2.done = true ∧ t.md2.x = md2OneShot m ∧
      t.md2.b = (md2BlocksOf ((md2PadMessage m).length / 16) (md2PadMessage m)).foldl md2Checksum (Vector.replicate 16 0)

/-- LEN is 512 per compressed block, LEN + 8*FILL is 8 per byte, and after FINALIZE LEN is the total (43_md_shape.md R194, 43_md_shape.md R196). The spec marks R196 as derived. -/
def Obligations.LengthCounterCountsTheMessage : Prop :=
  ∀ (bs : List Byte) (s : State),
    (∃ t, execAll ([Instr.of .md5 .init 0] ++ absorbsProgram .md5 bs) s = .next t ∧ t.md5.done = false ∧
      t.md5.fill.val = bs.length % 64 ∧ t.md5.len = BitVec.ofNat 64 (512 * (bs.length / 64)) ∧
      t.md5.len + BitVec.ofNat 64 (8 * t.md5.fill.val) = BitVec.ofNat 64 (8 * bs.length)) ∧
    (∃ t, execAll (messageProgram .md5 bs) s = .next t ∧ t.md5.len = BitVec.ofNat 64 (8 * bs.length)) ∧
    (∃ t, execAll ([Instr.of .sha1 .init 0] ++ absorbsProgram .sha1 bs) s = .next t ∧ t.sha1.done = false ∧
      t.sha1.fill.val = bs.length % 64 ∧ t.sha1.len = BitVec.ofNat 64 (512 * (bs.length / 64)) ∧
      t.sha1.len + BitVec.ofNat 64 (8 * t.sha1.fill.val) = BitVec.ofNat 64 (8 * bs.length)) ∧
    (∃ t, execAll (messageProgram .sha1 bs) s = .next t ∧ t.sha1.len = BitVec.ofNat 64 (8 * bs.length)) ∧
    (∃ t, execAll ([Instr.of .sha224 .init 0] ++ absorbsProgram .sha224 bs) s = .next t ∧ t.sha224.done = false ∧
      t.sha224.fill.val = bs.length % 64 ∧ t.sha224.len = BitVec.ofNat 64 (512 * (bs.length / 64)) ∧
      t.sha224.len + BitVec.ofNat 64 (8 * t.sha224.fill.val) = BitVec.ofNat 64 (8 * bs.length)) ∧
    (∃ t, execAll (messageProgram .sha224 bs) s = .next t ∧ t.sha224.len = BitVec.ofNat 64 (8 * bs.length)) ∧
    (∃ t, execAll ([Instr.of .sha256 .init 0] ++ absorbsProgram .sha256 bs) s = .next t ∧ t.sha256.done = false ∧
      t.sha256.fill.val = bs.length % 64 ∧ t.sha256.len = BitVec.ofNat 64 (512 * (bs.length / 64)) ∧
      t.sha256.len + BitVec.ofNat 64 (8 * t.sha256.fill.val) = BitVec.ofNat 64 (8 * bs.length)) ∧
    (∃ t, execAll (messageProgram .sha256 bs) s = .next t ∧ t.sha256.len = BitVec.ofNat 64 (8 * bs.length))

/-- 2^24 ABSORBs complete on every block engine, with LEN = 2^27 on the four that count (70_reset_and_hazards.md R346). The spec marks R346 as derived. -/
def Obligations.SixteenMebibytesDoNotOverrun : Prop :=
  ∀ (bs : List Byte) (s : State), bs.length = 2 ^ 24 →
    (∃ t, execAll ([Instr.of .md2 .init 0] ++ absorbsProgram .md2 bs) s = .next t ∧ t.md2.fill = 0) ∧
    (∃ t, execAll ([Instr.of .md5 .init 0] ++ absorbsProgram .md5 bs) s = .next t ∧ t.md5.fill = 0 ∧
      t.md5.len = 0x0000000008000000) ∧
    (∃ t, execAll ([Instr.of .sha1 .init 0] ++ absorbsProgram .sha1 bs) s = .next t ∧ t.sha1.fill = 0 ∧
      t.sha1.len = 0x0000000008000000) ∧
    (∃ t, execAll ([Instr.of .sha224 .init 0] ++ absorbsProgram .sha224 bs) s = .next t ∧ t.sha224.fill = 0 ∧
      t.sha224.len = 0x0000000008000000) ∧
    (∃ t, execAll ([Instr.of .sha256 .init 0] ++ absorbsProgram .sha256 bs) s = .next t ∧ t.sha256.fill = 0 ∧
      t.sha256.len = 0x0000000008000000)

/-- Hashing the same bytes from any two states gives the same digest, of 4, 16, 16, 20, 28, 32 bytes (47_status.md R299). The spec marks R299 as derived. -/
def Obligations.HashIsAFunctionOfTheMessage : Prop :=
  ∀ (e : Engine) (m : List Byte) (s s' : State),
    ∃ t t', execAll (messageProgram e m) s = .next t ∧ execAll (messageProgram e m) s' = .next t' ∧
      SameContext e t t' ∧
      ∀ i : Byte, ∃ u, exec (Instr.of e .rdig i) t = .next u ∧
        ((∃ d, u.rspq = some { data := d, err := false }) ↔
          i.toNat < digestLength e)

/-- The published digests of the message abc (95_test_vectors.md, 41_djb2.md R133, 42_md2.md R161, 44_md5.md R224, 45_sha1.md R254, 46_sha2.md R284, 46_sha2.md R288). -/
def Obligations.PublishedDigests : Prop :=
  (∃ t, execAll (messageProgram .djb2 [0x61, 0x62, 0x63]) State.reset = .next t ∧ t.djb2.h = 0x0B885C8B) ∧
  (∃ t, execAll (messageProgram .md2 [0x61, 0x62, 0x63]) State.reset = .next t ∧
    t.md2.x.toList.take 16 = [0xDA, 0x85, 0x3B, 0x0D, 0x3F, 0x88, 0xD9, 0x9B, 0x30, 0x28, 0x3A, 0x69, 0xE6, 0xDE, 0xD6, 0xBB]) ∧
  (∃ t, execAll (messageProgram .md5 [0x61, 0x62, 0x63]) State.reset = .next t ∧
    t.md5.h = #v[0x98500190, 0xB04FD23C, 0x7D3F96D6, 0x727FE128]) ∧
  (∃ t, execAll (messageProgram .sha1 [0x61, 0x62, 0x63]) State.reset = .next t ∧
    t.sha1.h = #v[0xA9993E36, 0x4706816A, 0xBA3E2571, 0x7850C26C, 0x9CD0D89D]) ∧
  (∃ t, execAll (messageProgram .sha224 [0x61, 0x62, 0x63]) State.reset = .next t ∧
    t.sha224.h = #v[0x23097D22, 0x3405D822, 0x8642A477, 0xBDA255B3, 0x2AADBCE4, 0xBDA0B3F7, 0xE36C9DA7, 0xD2DA082D]) ∧
  (∃ t, execAll (messageProgram .sha256 [0x61, 0x62, 0x63]) State.reset = .next t ∧
    t.sha256.h = #v[0xBA7816BF, 0x8F01CFEA, 0x414140DE, 0x5DAE2223, 0xB00361A3, 0x96177A9C, 0xB410FF61, 0xF20015AD])

/-- rotl and rotr: identity at 0 and W, shifts joined in between, equal to bit rotation, inverse to each other (R110, R111). -/
def Obligations.RotationLaws : Prop :=
  ∀ (w : Nat) (x : BitVec w) (n : Nat), n ≤ w →
    ((n = 0 ∨ n = w) → rotl x n = x ∧ rotr x n = x) ∧
    (0 < n → n < w → rotl x n = (x <<< n ||| x >>> (w - n)) ∧ rotr x n = (x >>> n ||| x <<< (w - n))) ∧
    rotl x n = x.rotateLeft n ∧ rotr x n = x.rotateRight n ∧ rotr (rotl x n) n = x

/-- CH and MAJ, and their other forms (40_primitives.md R113, 40_primitives.md R114, 44_md5.md R213, 45_sha1.md R242). The second forms are marked as derived in the spec. -/
def Obligations.ChooseAndMajority : Prop :=
  ∀ x y z : Word,
    ch x y z = ((x &&& y) ^^^ (~~~x &&& z)) ∧ ch x y z = ((x &&& y) ||| (~~~x &&& z)) ∧
    maj x y z = ((x &&& y) ^^^ (x &&& z) ^^^ (y &&& z)) ∧
    (∀ k, (maj x y z).getLsbD k =
      ((x.getLsbD k && y.getLsbD k) || (x.getLsbD k && z.getLsbD k) || (y.getLsbD k && z.getLsbD k)))

/-- The four sigma functions by their amounts (R115, R116, R117, R118). -/
def Obligations.SigmaFunctions : Prop :=
  ∀ x : Word,
    bigSigma0 x = (rotr x 2 ^^^ rotr x 13 ^^^ rotr x 22) ∧ bigSigma1 x = (rotr x 6 ^^^ rotr x 11 ^^^ rotr x 25) ∧
    smallSigma0 x = (rotr x 7 ^^^ rotr x 18 ^^^ x >>> 3) ∧ smallSigma1 x = (rotr x 17 ^^^ rotr x 19 ^^^ x >>> 10)

/-- The worked examples of the primitives (40_primitives.md R123). The spec marks the examples as derived. -/
def Obligations.PrimitiveExamples : Prop :=
  rotl (0x80000001 : Word) 1 = 0x00000003 ∧ rotl (0x12345678 : Word) 0 = 0x12345678 ∧
    rotl (0x12345678 : Word) 32 = 0x12345678 ∧ rotr (0x00000001 : Word) 1 = 0x80000000 ∧
    rotr (0x12345678 : Word) 8 = 0x78123456 ∧ ch 0xFF00FF00 0x12345678 0x9ABCDEF0 = 0x12BC56F0 ∧
    maj 0xFF00FF00 0x0F0F0F0F 0x00FF00FF = 0x0F0F0F0F ∧ bigSigma0 0x6A09E667 = 0xCE20B47E ∧
    bigSigma1 0x510E527F = 0x3587272B ∧ smallSigma0 0x00000001 = 0x02004000 ∧
    smallSigma1 0x00000001 = 0x0000A000 ∧ (0xFFFFFFFF : Word) + 0x00000002 = 0x00000001

/-- ROM_S is a permutation of the bytes, with its spot values (42_md2.md R152). The spec marks R152 as derived. -/
def Obligations.RomSIsAPermutation : Prop :=
  Function.Bijective romS ∧ romS 0x00 = 0x29 ∧ romS 0x10 = 0x62 ∧ romS 0xDD = 0x00 ∧ romS 0xFF = 0x14

/-- The load stage: chaining value kept, block at 16, block xor chaining value at 32 (R153). -/
def Obligations.Md2LoadByIndex : Prop :=
  ∀ (x : Md2Work) (m : Md2Block) (j : Fin 16),
    (md2Load x m)[j.val] = x[j.val] ∧ (md2Load x m)[16 + j.val] = m[j.val] ∧
    (md2Load x m)[32 + j.val] = m[j.val] ^^^ x[j.val]

/-- The mixer is the 18-round, 48-step index loop of the spec with the 0-based round index (R154, R155). -/
def Obligations.Md2MixerByIndex : Prop :=
  ∀ x : Md2Work, md2Mix x = mixByIndex x

/-- The checksum stage is the 16-step index loop of the spec with the updated byte threaded (R156). -/
def Obligations.Md2ChecksumByIndex : Prop :=
  ∀ sum m : Md2Block, md2Checksum sum m = checksumByIndex sum m

/-- The MD5 shift amounts and message word order, step by step (R212, R214). -/
def Obligations.Md5StepTables : Prop :=
  (List.range 64).map shift5 =
    (List.replicate 4 [7, 12, 17, 22]).flatten ++ (List.replicate 4 [5, 9, 14, 20]).flatten ++
    (List.replicate 4 [4, 11, 16, 23]).flatten ++ (List.replicate 4 [6, 10, 15, 21]).flatten ∧
  (List.range 64).map md5Index =
    [0, 1, 2, 3, 4, 5, 6, 7, 8, 9, 10, 11, 12, 13, 14, 15] ++ [1, 6, 11, 0, 5, 10, 15, 4, 9, 14, 3, 8, 13, 2, 7, 12] ++
    [5, 8, 11, 14, 1, 4, 7, 10, 13, 0, 3, 6, 9, 12, 15, 2] ++ [0, 7, 14, 5, 12, 3, 10, 1, 8, 15, 6, 13, 4, 11, 2, 9]

/-- MD5 compression: 64 steps of the given form from H over little-endian words, then added back (R215, R216). -/
def Obligations.Md5CompressionSteps : Prop :=
  ∀ (h : Vector Word 4) (blk : Block), ∃ v : Nat → Word × Word × Word × Word,
    v 0 = (h[0], h[1], h[2], h[3]) ∧
    (∀ i < 64, ∀ a b c d, v i = (a, b, c, d) → ∃ (f : Word) (k : Fin 16), k = md5Index i ∧
      (i < 16 → f = ((b &&& c) ||| (~~~b &&& d))) ∧ (16 ≤ i → i < 32 → f = ((b &&& d) ||| (c &&& ~~~d))) ∧
      (32 ≤ i → i < 48 → f = (b ^^^ c ^^^ d)) ∧ (48 ≤ i → f = (c ^^^ (b ||| ~~~d))) ∧
      v (i + 1) = (d, b + rotl (a + f +
        (blk[4 * k.val + 3] ++ blk[4 * k.val + 2] ++ blk[4 * k.val + 1] ++ blk[4 * k.val]) + romK5 i) (shift5 i), b, c)) ∧
    ∀ a b c d, v 64 = (a, b, c, d) → compressMd5 h blk = #v[h[0] + a, h[1] + b, h[2] + c, h[3] + d]

/-- SHA-1 compression: the 80-word schedule, 80 steps of the given form, then added back (R244, R245, R246). -/
def Obligations.Sha1Compression : Prop :=
  ∀ (h : Vector Word 5) (blk : Block), ∃ (W : Nat → Word) (v : Nat → Word × Word × Word × Word × Word),
    (∀ k : Fin 16, W k.val = blk[4 * k.val] ++ blk[4 * k.val + 1] ++ blk[4 * k.val + 2] ++ blk[4 * k.val + 3]) ∧
    (∀ i, 16 ≤ i → i < 80 → W i = rotl (W (i - 3) ^^^ W (i - 8) ^^^ W (i - 14) ^^^ W (i - 16)) 1) ∧
    v 0 = (h[0], h[1], h[2], h[3], h[4]) ∧
    (∀ i < 80, ∀ a b c d e, v i = (a, b, c, d, e) → ∃ f : Word,
      (i < 20 → f = ((b &&& c) ||| (~~~b &&& d))) ∧ (20 ≤ i → i < 40 → f = (b ^^^ c ^^^ d)) ∧
      (40 ≤ i → i < 60 → f = maj b c d) ∧ (60 ≤ i → f = (b ^^^ c ^^^ d)) ∧
      v (i + 1) = (rotl a 5 + f + e + romK1 (i / 20) + W i, a, rotl b 30, c, d)) ∧
    ∀ a b c d e, v 80 = (a, b, c, d, e) → compressSha1 h blk = #v[h[0] + a, h[1] + b, h[2] + c, h[3] + d, h[4] + e]

/-- SHA-2 compression: the 64-word schedule, 64 steps of the given form, then added back (R272, R274, R276). -/
def Obligations.Sha2Compression : Prop :=
  ∀ (hs : Vector Word 8) (blk : Block),
    ∃ (W : Nat → Word) (v : Nat → Word × Word × Word × Word × Word × Word × Word × Word),
    (∀ k : Fin 16, W k.val = blk[4 * k.val] ++ blk[4 * k.val + 1] ++ blk[4 * k.val + 2] ++ blk[4 * k.val + 3]) ∧
    (∀ i, 16 ≤ i → i < 64 →
      W i = smallSigma1 (W (i - 2)) + W (i - 7) + smallSigma0 (W (i - 15)) + W (i - 16)) ∧
    v 0 = (hs[0], hs[1], hs[2], hs[3], hs[4], hs[5], hs[6], hs[7]) ∧
    (∀ i < 64, ∀ a b c d e f g h, v i = (a, b, c, d, e, f, g, h) →
      ∃ t1 t2 : Word, t1 = h + bigSigma1 e + ch e f g + romK2 i + W i ∧ t2 = bigSigma0 a + maj a b c ∧
        v (i + 1) = (t1 + t2, a, b, c, d + t1, e, f, g)) ∧
    ∀ a b c d e f g h, v 64 = (a, b, c, d, e, f, g, h) →
      compressSha2 hs blk = #v[hs[0] + a, hs[1] + b, hs[2] + c, hs[3] + d, hs[4] + e, hs[5] + f, hs[6] + g, hs[7] + h]

/-- Every command has a line of text that assembles to it (30_encoding.md R98). The layout of a line is log entry 12. -/
def Obligations.RenderedLinesAssemble : Prop :=
  ∀ i : Instr, Asm.line (Asm.render i) = .ok (some (.instr i)) ∧ Asm.program [Asm.render i] = .ok [encode i]

/-- absorbs, rdigest and hash expand as the table gives them (R100). -/
def Obligations.PseudoInstructionsExpand : Prop :=
  ∀ (e : Engine) (bs : List Byte),
    (AsmCommand.absorbs e bs).words = bs.map (fun b => encode (Instr.of e .absorb b)) ∧
    (AsmCommand.rdigest e).words =
      (List.range (digestLength e)).map
        (fun i => encode (Instr.of e .rdig (BitVec.ofNat 8 i))) ∧
    (AsmCommand.hash e bs).words =
      [encode (Instr.of e .init 0)] ++ (AsmCommand.absorbs e bs).words ++ [encode (Instr.of e .finalize 0)] ++
        (AsmCommand.rdigest e).words
end

