-- ==== Sys2Proof/Laws/State.lean ====
section
/-! SUPPORT. One lemma per field per named update of the state: what the update leaves in that field. -/

namespace Sys2Proof.Machine

variable (s : State)

/-! `State.setDjb2` -/

@[simp] theorem State.setDjb2_djb2 (c : Djb2Ctx) : (s.setDjb2 c).djb2 = c := rfl
@[simp] theorem State.setDjb2_md2 (c : Djb2Ctx) : (s.setDjb2 c).md2 = s.md2 := rfl
@[simp] theorem State.setDjb2_md5 (c : Djb2Ctx) : (s.setDjb2 c).md5 = s.md5 := rfl
@[simp] theorem State.setDjb2_sha1 (c : Djb2Ctx) : (s.setDjb2 c).sha1 = s.sha1 := rfl
@[simp] theorem State.setDjb2_sha224 (c : Djb2Ctx) : (s.setDjb2 c).sha224 = s.sha224 := rfl
@[simp] theorem State.setDjb2_sha256 (c : Djb2Ctx) : (s.setDjb2 c).sha256 = s.sha256 := rfl
@[simp] theorem State.setDjb2_err (c : Djb2Ctx) : (s.setDjb2 c).err = s.err := rfl
@[simp] theorem State.setDjb2_errCmd (c : Djb2Ctx) : (s.setDjb2 c).errCmd = s.errCmd := rfl
@[simp] theorem State.setDjb2_rspq (c : Djb2Ctx) : (s.setDjb2 c).rspq = s.rspq := rfl
@[simp] theorem State.setDjb2_running (c : Djb2Ctx) : (s.setDjb2 c).running = s.running := rfl
@[simp] theorem State.setDjb2_settling (c : Djb2Ctx) : (s.setDjb2 c).settling = s.settling := rfl
@[simp] theorem State.setDjb2_lat (c : Djb2Ctx) : (s.setDjb2 c).lat = s.lat := rfl
@[simp] theorem State.setDjb2_port (c : Djb2Ctx) : (s.setDjb2 c).port = s.port := rfl

/-! `State.setMd2` -/

@[simp] theorem State.setMd2_djb2 (c : Md2Ctx) : (s.setMd2 c).djb2 = s.djb2 := rfl
@[simp] theorem State.setMd2_md2 (c : Md2Ctx) : (s.setMd2 c).md2 = c := rfl
@[simp] theorem State.setMd2_md5 (c : Md2Ctx) : (s.setMd2 c).md5 = s.md5 := rfl
@[simp] theorem State.setMd2_sha1 (c : Md2Ctx) : (s.setMd2 c).sha1 = s.sha1 := rfl
@[simp] theorem State.setMd2_sha224 (c : Md2Ctx) : (s.setMd2 c).sha224 = s.sha224 := rfl
@[simp] theorem State.setMd2_sha256 (c : Md2Ctx) : (s.setMd2 c).sha256 = s.sha256 := rfl
@[simp] theorem State.setMd2_err (c : Md2Ctx) : (s.setMd2 c).err = s.err := rfl
@[simp] theorem State.setMd2_errCmd (c : Md2Ctx) : (s.setMd2 c).errCmd = s.errCmd := rfl
@[simp] theorem State.setMd2_rspq (c : Md2Ctx) : (s.setMd2 c).rspq = s.rspq := rfl
@[simp] theorem State.setMd2_running (c : Md2Ctx) : (s.setMd2 c).running = s.running := rfl
@[simp] theorem State.setMd2_settling (c : Md2Ctx) : (s.setMd2 c).settling = s.settling := rfl
@[simp] theorem State.setMd2_lat (c : Md2Ctx) : (s.setMd2 c).lat = s.lat := rfl
@[simp] theorem State.setMd2_port (c : Md2Ctx) : (s.setMd2 c).port = s.port := rfl

/-! `State.setMd5` -/

@[simp] theorem State.setMd5_djb2 (c : MdCtx 4) : (s.setMd5 c).djb2 = s.djb2 := rfl
@[simp] theorem State.setMd5_md2 (c : MdCtx 4) : (s.setMd5 c).md2 = s.md2 := rfl
@[simp] theorem State.setMd5_md5 (c : MdCtx 4) : (s.setMd5 c).md5 = c := rfl
@[simp] theorem State.setMd5_sha1 (c : MdCtx 4) : (s.setMd5 c).sha1 = s.sha1 := rfl
@[simp] theorem State.setMd5_sha224 (c : MdCtx 4) : (s.setMd5 c).sha224 = s.sha224 := rfl
@[simp] theorem State.setMd5_sha256 (c : MdCtx 4) : (s.setMd5 c).sha256 = s.sha256 := rfl
@[simp] theorem State.setMd5_err (c : MdCtx 4) : (s.setMd5 c).err = s.err := rfl
@[simp] theorem State.setMd5_errCmd (c : MdCtx 4) : (s.setMd5 c).errCmd = s.errCmd := rfl
@[simp] theorem State.setMd5_rspq (c : MdCtx 4) : (s.setMd5 c).rspq = s.rspq := rfl
@[simp] theorem State.setMd5_running (c : MdCtx 4) : (s.setMd5 c).running = s.running := rfl
@[simp] theorem State.setMd5_settling (c : MdCtx 4) : (s.setMd5 c).settling = s.settling := rfl
@[simp] theorem State.setMd5_lat (c : MdCtx 4) : (s.setMd5 c).lat = s.lat := rfl
@[simp] theorem State.setMd5_port (c : MdCtx 4) : (s.setMd5 c).port = s.port := rfl

/-! `State.setSha1` -/

@[simp] theorem State.setSha1_djb2 (c : MdCtx 5) : (s.setSha1 c).djb2 = s.djb2 := rfl
@[simp] theorem State.setSha1_md2 (c : MdCtx 5) : (s.setSha1 c).md2 = s.md2 := rfl
@[simp] theorem State.setSha1_md5 (c : MdCtx 5) : (s.setSha1 c).md5 = s.md5 := rfl
@[simp] theorem State.setSha1_sha1 (c : MdCtx 5) : (s.setSha1 c).sha1 = c := rfl
@[simp] theorem State.setSha1_sha224 (c : MdCtx 5) : (s.setSha1 c).sha224 = s.sha224 := rfl
@[simp] theorem State.setSha1_sha256 (c : MdCtx 5) : (s.setSha1 c).sha256 = s.sha256 := rfl
@[simp] theorem State.setSha1_err (c : MdCtx 5) : (s.setSha1 c).err = s.err := rfl
@[simp] theorem State.setSha1_errCmd (c : MdCtx 5) : (s.setSha1 c).errCmd = s.errCmd := rfl
@[simp] theorem State.setSha1_rspq (c : MdCtx 5) : (s.setSha1 c).rspq = s.rspq := rfl
@[simp] theorem State.setSha1_running (c : MdCtx 5) : (s.setSha1 c).running = s.running := rfl
@[simp] theorem State.setSha1_settling (c : MdCtx 5) : (s.setSha1 c).settling = s.settling := rfl
@[simp] theorem State.setSha1_lat (c : MdCtx 5) : (s.setSha1 c).lat = s.lat := rfl
@[simp] theorem State.setSha1_port (c : MdCtx 5) : (s.setSha1 c).port = s.port := rfl

/-! `State.setSha224` -/

@[simp] theorem State.setSha224_djb2 (c : MdCtx 8) : (s.setSha224 c).djb2 = s.djb2 := rfl
@[simp] theorem State.setSha224_md2 (c : MdCtx 8) : (s.setSha224 c).md2 = s.md2 := rfl
@[simp] theorem State.setSha224_md5 (c : MdCtx 8) : (s.setSha224 c).md5 = s.md5 := rfl
@[simp] theorem State.setSha224_sha1 (c : MdCtx 8) : (s.setSha224 c).sha1 = s.sha1 := rfl
@[simp] theorem State.setSha224_sha224 (c : MdCtx 8) : (s.setSha224 c).sha224 = c := rfl
@[simp] theorem State.setSha224_sha256 (c : MdCtx 8) : (s.setSha224 c).sha256 = s.sha256 := rfl
@[simp] theorem State.setSha224_err (c : MdCtx 8) : (s.setSha224 c).err = s.err := rfl
@[simp] theorem State.setSha224_errCmd (c : MdCtx 8) : (s.setSha224 c).errCmd = s.errCmd := rfl
@[simp] theorem State.setSha224_rspq (c : MdCtx 8) : (s.setSha224 c).rspq = s.rspq := rfl
@[simp] theorem State.setSha224_running (c : MdCtx 8) : (s.setSha224 c).running = s.running := rfl
@[simp] theorem State.setSha224_settling (c : MdCtx 8) : (s.setSha224 c).settling = s.settling := rfl
@[simp] theorem State.setSha224_lat (c : MdCtx 8) : (s.setSha224 c).lat = s.lat := rfl
@[simp] theorem State.setSha224_port (c : MdCtx 8) : (s.setSha224 c).port = s.port := rfl

/-! `State.setSha256` -/

@[simp] theorem State.setSha256_djb2 (c : MdCtx 8) : (s.setSha256 c).djb2 = s.djb2 := rfl
@[simp] theorem State.setSha256_md2 (c : MdCtx 8) : (s.setSha256 c).md2 = s.md2 := rfl
@[simp] theorem State.setSha256_md5 (c : MdCtx 8) : (s.setSha256 c).md5 = s.md5 := rfl
@[simp] theorem State.setSha256_sha1 (c : MdCtx 8) : (s.setSha256 c).sha1 = s.sha1 := rfl
@[simp] theorem State.setSha256_sha224 (c : MdCtx 8) : (s.setSha256 c).sha224 = s.sha224 := rfl
@[simp] theorem State.setSha256_sha256 (c : MdCtx 8) : (s.setSha256 c).sha256 = c := rfl
@[simp] theorem State.setSha256_err (c : MdCtx 8) : (s.setSha256 c).err = s.err := rfl
@[simp] theorem State.setSha256_errCmd (c : MdCtx 8) : (s.setSha256 c).errCmd = s.errCmd := rfl
@[simp] theorem State.setSha256_rspq (c : MdCtx 8) : (s.setSha256 c).rspq = s.rspq := rfl
@[simp] theorem State.setSha256_running (c : MdCtx 8) : (s.setSha256 c).running = s.running := rfl
@[simp] theorem State.setSha256_settling (c : MdCtx 8) : (s.setSha256 c).settling = s.settling := rfl
@[simp] theorem State.setSha256_lat (c : MdCtx 8) : (s.setSha256 c).lat = s.lat := rfl
@[simp] theorem State.setSha256_port (c : MdCtx 8) : (s.setSha256 c).port = s.port := rfl

/-! `State.respond` -/

@[simp] theorem State.respond_djb2 (d : Byte) (e : Bool) : (s.respond d e).djb2 = s.djb2 := rfl
@[simp] theorem State.respond_md2 (d : Byte) (e : Bool) : (s.respond d e).md2 = s.md2 := rfl
@[simp] theorem State.respond_md5 (d : Byte) (e : Bool) : (s.respond d e).md5 = s.md5 := rfl
@[simp] theorem State.respond_sha1 (d : Byte) (e : Bool) : (s.respond d e).sha1 = s.sha1 := rfl
@[simp] theorem State.respond_sha224 (d : Byte) (e : Bool) : (s.respond d e).sha224 = s.sha224 := rfl
@[simp] theorem State.respond_sha256 (d : Byte) (e : Bool) : (s.respond d e).sha256 = s.sha256 := rfl
@[simp] theorem State.respond_err (d : Byte) (e : Bool) : (s.respond d e).err = s.err := rfl
@[simp] theorem State.respond_errCmd (d : Byte) (e : Bool) : (s.respond d e).errCmd = s.errCmd := rfl
@[simp] theorem State.respond_rspq (d : Byte) (e : Bool) : (s.respond d e).rspq = some { data := d, err := e } := rfl
@[simp] theorem State.respond_running (d : Byte) (e : Bool) : (s.respond d e).running = s.running := rfl
@[simp] theorem State.respond_settling (d : Byte) (e : Bool) : (s.respond d e).settling = s.settling := rfl
@[simp] theorem State.respond_lat (d : Byte) (e : Bool) : (s.respond d e).lat = s.lat := rfl
@[simp] theorem State.respond_port (d : Byte) (e : Bool) : (s.respond d e).port = s.port := rfl

/-! `State.takeResponse` -/

@[simp] theorem State.takeResponse_djb2 : (s.takeResponse).djb2 = s.djb2 := rfl
@[simp] theorem State.takeResponse_md2 : (s.takeResponse).md2 = s.md2 := rfl
@[simp] theorem State.takeResponse_md5 : (s.takeResponse).md5 = s.md5 := rfl
@[simp] theorem State.takeResponse_sha1 : (s.takeResponse).sha1 = s.sha1 := rfl
@[simp] theorem State.takeResponse_sha224 : (s.takeResponse).sha224 = s.sha224 := rfl
@[simp] theorem State.takeResponse_sha256 : (s.takeResponse).sha256 = s.sha256 := rfl
@[simp] theorem State.takeResponse_err : (s.takeResponse).err = s.err := rfl
@[simp] theorem State.takeResponse_errCmd : (s.takeResponse).errCmd = s.errCmd := rfl
@[simp] theorem State.takeResponse_rspq : (s.takeResponse).rspq = none := rfl
@[simp] theorem State.takeResponse_running : (s.takeResponse).running = s.running := rfl
@[simp] theorem State.takeResponse_settling : (s.takeResponse).settling = s.settling := rfl
@[simp] theorem State.takeResponse_lat : (s.takeResponse).lat = s.lat := rfl
@[simp] theorem State.takeResponse_port : (s.takeResponse).port = s.port := rfl

/-! `State.recordFault` -/

@[simp] theorem State.recordFault_djb2 (k : FaultKind) (w : CmdWord) : (s.recordFault k w).djb2 = s.djb2 := rfl
@[simp] theorem State.recordFault_md2 (k : FaultKind) (w : CmdWord) : (s.recordFault k w).md2 = s.md2 := rfl
@[simp] theorem State.recordFault_md5 (k : FaultKind) (w : CmdWord) : (s.recordFault k w).md5 = s.md5 := rfl
@[simp] theorem State.recordFault_sha1 (k : FaultKind) (w : CmdWord) : (s.recordFault k w).sha1 = s.sha1 := rfl
@[simp] theorem State.recordFault_sha224 (k : FaultKind) (w : CmdWord) : (s.recordFault k w).sha224 = s.sha224 := rfl
@[simp] theorem State.recordFault_sha256 (k : FaultKind) (w : CmdWord) : (s.recordFault k w).sha256 = s.sha256 := rfl
@[simp] theorem State.recordFault_err (k : FaultKind) (w : CmdWord) : (s.recordFault k w).err = setErrBit s.err k := rfl
@[simp] theorem State.recordFault_errCmd (k : FaultKind) (w : CmdWord) : (s.recordFault k w).errCmd = if s.err = 0 then w else s.errCmd := rfl
@[simp] theorem State.recordFault_rspq (k : FaultKind) (w : CmdWord) : (s.recordFault k w).rspq = s.rspq := rfl
@[simp] theorem State.recordFault_running (k : FaultKind) (w : CmdWord) : (s.recordFault k w).running = s.running := rfl
@[simp] theorem State.recordFault_settling (k : FaultKind) (w : CmdWord) : (s.recordFault k w).settling = s.settling := rfl
@[simp] theorem State.recordFault_lat (k : FaultKind) (w : CmdWord) : (s.recordFault k w).lat = s.lat := rfl
@[simp] theorem State.recordFault_port (k : FaultKind) (w : CmdWord) : (s.recordFault k w).port = s.port := rfl

/-! `State.setRunning` -/

@[simp] theorem State.setRunning_djb2 (r : Option Running) : (s.setRunning r).djb2 = s.djb2 := rfl
@[simp] theorem State.setRunning_md2 (r : Option Running) : (s.setRunning r).md2 = s.md2 := rfl
@[simp] theorem State.setRunning_md5 (r : Option Running) : (s.setRunning r).md5 = s.md5 := rfl
@[simp] theorem State.setRunning_sha1 (r : Option Running) : (s.setRunning r).sha1 = s.sha1 := rfl
@[simp] theorem State.setRunning_sha224 (r : Option Running) : (s.setRunning r).sha224 = s.sha224 := rfl
@[simp] theorem State.setRunning_sha256 (r : Option Running) : (s.setRunning r).sha256 = s.sha256 := rfl
@[simp] theorem State.setRunning_err (r : Option Running) : (s.setRunning r).err = s.err := rfl
@[simp] theorem State.setRunning_errCmd (r : Option Running) : (s.setRunning r).errCmd = s.errCmd := rfl
@[simp] theorem State.setRunning_rspq (r : Option Running) : (s.setRunning r).rspq = s.rspq := rfl
@[simp] theorem State.setRunning_running (r : Option Running) : (s.setRunning r).running = r := rfl
@[simp] theorem State.setRunning_settling (r : Option Running) : (s.setRunning r).settling = s.settling := rfl
@[simp] theorem State.setRunning_lat (r : Option Running) : (s.setRunning r).lat = s.lat := rfl
@[simp] theorem State.setRunning_port (r : Option Running) : (s.setRunning r).port = s.port := rfl

/-! `State.settled` -/

@[simp] theorem State.settled_djb2 : (s.settled).djb2 = s.djb2 := rfl
@[simp] theorem State.settled_md2 : (s.settled).md2 = s.md2 := rfl
@[simp] theorem State.settled_md5 : (s.settled).md5 = s.md5 := rfl
@[simp] theorem State.settled_sha1 : (s.settled).sha1 = s.sha1 := rfl
@[simp] theorem State.settled_sha224 : (s.settled).sha224 = s.sha224 := rfl
@[simp] theorem State.settled_sha256 : (s.settled).sha256 = s.sha256 := rfl
@[simp] theorem State.settled_err : (s.settled).err = s.err := rfl
@[simp] theorem State.settled_errCmd : (s.settled).errCmd = s.errCmd := rfl
@[simp] theorem State.settled_rspq : (s.settled).rspq = s.rspq := rfl
@[simp] theorem State.settled_running : (s.settled).running = s.running := rfl
@[simp] theorem State.settled_settling : (s.settled).settling = false := rfl
@[simp] theorem State.settled_lat : (s.settled).lat = s.lat := rfl
@[simp] theorem State.settled_port : (s.settled).port = s.port := rfl

/-! `State.setPort` -/

@[simp] theorem State.setPort_djb2 (p : List PortIn) : (s.setPort p).djb2 = s.djb2 := rfl
@[simp] theorem State.setPort_md2 (p : List PortIn) : (s.setPort p).md2 = s.md2 := rfl
@[simp] theorem State.setPort_md5 (p : List PortIn) : (s.setPort p).md5 = s.md5 := rfl
@[simp] theorem State.setPort_sha1 (p : List PortIn) : (s.setPort p).sha1 = s.sha1 := rfl
@[simp] theorem State.setPort_sha224 (p : List PortIn) : (s.setPort p).sha224 = s.sha224 := rfl
@[simp] theorem State.setPort_sha256 (p : List PortIn) : (s.setPort p).sha256 = s.sha256 := rfl
@[simp] theorem State.setPort_err (p : List PortIn) : (s.setPort p).err = s.err := rfl
@[simp] theorem State.setPort_errCmd (p : List PortIn) : (s.setPort p).errCmd = s.errCmd := rfl
@[simp] theorem State.setPort_rspq (p : List PortIn) : (s.setPort p).rspq = s.rspq := rfl
@[simp] theorem State.setPort_running (p : List PortIn) : (s.setPort p).running = s.running := rfl
@[simp] theorem State.setPort_settling (p : List PortIn) : (s.setPort p).settling = s.settling := rfl
@[simp] theorem State.setPort_lat (p : List PortIn) : (s.setPort p).lat = s.lat := rfl
@[simp] theorem State.setPort_port (p : List PortIn) : (s.setPort p).port = p := rfl

/-! `State.resetEdge` -/

@[simp] theorem State.resetEdge_djb2 : (s.resetEdge).djb2 = State.reset.djb2 := rfl
@[simp] theorem State.resetEdge_md2 : (s.resetEdge).md2 = State.reset.md2 := rfl
@[simp] theorem State.resetEdge_md5 : (s.resetEdge).md5 = State.reset.md5 := rfl
@[simp] theorem State.resetEdge_sha1 : (s.resetEdge).sha1 = State.reset.sha1 := rfl
@[simp] theorem State.resetEdge_sha224 : (s.resetEdge).sha224 = State.reset.sha224 := rfl
@[simp] theorem State.resetEdge_sha256 : (s.resetEdge).sha256 = State.reset.sha256 := rfl
@[simp] theorem State.resetEdge_err : (s.resetEdge).err = State.reset.err := rfl
@[simp] theorem State.resetEdge_errCmd : (s.resetEdge).errCmd = State.reset.errCmd := rfl
@[simp] theorem State.resetEdge_rspq : (s.resetEdge).rspq = State.reset.rspq := rfl
@[simp] theorem State.resetEdge_running : (s.resetEdge).running = State.reset.running := rfl
@[simp] theorem State.resetEdge_settling : (s.resetEdge).settling = State.reset.settling := rfl
@[simp] theorem State.resetEdge_lat : (s.resetEdge).lat = s.lat := rfl
@[simp] theorem State.resetEdge_port : (s.resetEdge).port = s.port := rfl

/-! `State.advance` -/

@[simp] theorem State.advance_djb2 : (s.advance).djb2 = s.djb2 := rfl
@[simp] theorem State.advance_md2 : (s.advance).md2 = s.md2 := rfl
@[simp] theorem State.advance_md5 : (s.advance).md5 = s.md5 := rfl
@[simp] theorem State.advance_sha1 : (s.advance).sha1 = s.sha1 := rfl
@[simp] theorem State.advance_sha224 : (s.advance).sha224 = s.sha224 := rfl
@[simp] theorem State.advance_sha256 : (s.advance).sha256 = s.sha256 := rfl
@[simp] theorem State.advance_err : (s.advance).err = s.err := rfl
@[simp] theorem State.advance_errCmd : (s.advance).errCmd = s.errCmd := rfl
@[simp] theorem State.advance_rspq : (s.advance).rspq = s.rspq := rfl
@[simp] theorem State.advance_running : (s.advance).running = s.running := rfl
@[simp] theorem State.advance_settling : (s.advance).settling = s.settling := rfl
@[simp] theorem State.advance_lat : (s.advance).lat = s.lat := rfl
@[simp] theorem State.advance_port : (s.advance).port = s.port.tail := rfl

end Sys2Proof.Machine
end

