-- ==== Sys2Proof/Laws/Ops.lean ====
section
/-! SUPPORT. What taking a fault does to each field (60_exceptions.md R300), and the two ways a command with checks ends. -/

namespace Sys2Proof.Machine

variable (k : FaultKind) (w : CmdWord) (s : State)

@[simp] theorem takeFault_djb2 : (takeFault k w s).djb2 = s.djb2 := by
  unfold takeFault; split <;> rfl
@[simp] theorem takeFault_md2 : (takeFault k w s).md2 = s.md2 := by
  unfold takeFault; split <;> rfl
@[simp] theorem takeFault_md5 : (takeFault k w s).md5 = s.md5 := by
  unfold takeFault; split <;> rfl
@[simp] theorem takeFault_sha1 : (takeFault k w s).sha1 = s.sha1 := by
  unfold takeFault; split <;> rfl
@[simp] theorem takeFault_sha224 : (takeFault k w s).sha224 = s.sha224 := by
  unfold takeFault; split <;> rfl
@[simp] theorem takeFault_sha256 : (takeFault k w s).sha256 = s.sha256 := by
  unfold takeFault; split <;> rfl
@[simp] theorem takeFault_err : (takeFault k w s).err = setErrBit s.err k := by
  unfold takeFault; split <;> rfl
@[simp] theorem takeFault_errCmd : (takeFault k w s).errCmd = if s.err = 0 then w else s.errCmd := by
  unfold takeFault; split <;> rfl
@[simp] theorem takeFault_rspq : (takeFault k w s).rspq = if responds w then some { data := 0, err := true } else s.rspq := by
  unfold takeFault; split <;> rfl
@[simp] theorem takeFault_running : (takeFault k w s).running = s.running := by
  unfold takeFault; split <;> rfl
@[simp] theorem takeFault_settling : (takeFault k w s).settling = s.settling := by
  unfold takeFault; split <;> rfl
@[simp] theorem takeFault_lat : (takeFault k w s).lat = s.lat := by
  unfold takeFault; split <;> rfl
@[simp] theorem takeFault_port : (takeFault k w s).port = s.port := by
  unfold takeFault; split <;> rfl

/-- A command whose checks find no fault ends with its own effect. -/
@[simp] theorem complete_none (t : State) : complete none w s t = .next t := rfl

/-- A command whose checks find a fault takes it. -/
@[simp] theorem complete_some (t : State) : complete (some k) w s t = .next (takeFault k w s) := rfl

/-- A command with checks always answers a next state: a fault taken, or its effect. -/
theorem complete_next (check : Option FaultKind) (t u : State) (h : complete check w s t = .next u) :
    (∃ k, check = some k ∧ u = takeFault k w s) ∨ (check = none ∧ u = t) := by
  cases check with
  | none => simp only [complete_none, Host.Outcome.next.injEq] at h; exact .inr ⟨rfl, h.symm⟩
  | some k => simp only [complete_some, Host.Outcome.next.injEq] at h; exact .inl ⟨k, rfl, h.symm⟩

@[simp] theorem spentFault_false : spentFault false = none := rfl
@[simp] theorem spentFault_true : spentFault true = some .spent := rfl
@[simp] theorem rdigFault_false (n i : Nat) : rdigFault false n i = some .notDone := rfl

/-- A finalized engine's digest byte below the digest length is read without a fault. -/
theorem rdigFault_of_lt {n i : Nat} (h : i < n) : rdigFault true n i = none := by
  simp [rdigFault, Nat.not_le.mpr h]

/-- A finalized engine's digest index at or above the digest length is out of range. -/
theorem rdigFault_of_le {n i : Nat} (h : n ≤ i) : rdigFault true n i = some .range := by
  simp [rdigFault, h]

/-- A fault in `ERR`: its own bit is set, every other bit is as it was. -/
theorem setErrBit_getLsbD (err : BitVec 4) (j : Nat) (h : j < 4) :
    (setErrBit err k).getLsbD j = (err.getLsbD j || decide (j = k.code)) := by
  have : j = 0 ∨ j = 1 ∨ j = 2 ∨ j = 3 := by omega
  rcases this with rfl | rfl | rfl | rfl <;> cases k <;> simp [setErrBit, FaultKind.code]

/-- After a fault `ERR` is not 0. -/
theorem setErrBit_ne_zero (err : BitVec 4) : setErrBit err k ≠ 0 := by
  revert err; cases k <;> decide

end Sys2Proof.Machine
end

