-- ==== Sys2Proof/Laws/Decode.lean ====
section
/-! SUPPORT. The command format: packing the fields and extracting them are inverse to each other, the number tables are
inverse to each other, and `OP` of an encoded instruction is its operation. -/

namespace Sys2Proof

/-- The fields of a packed word are the fields packed. -/
@[simp] theorem Cmd16.ofWord_toWord (c : Cmd16) : Cmd16.ofWord c.toWord = c := by
  obtain ⟨e, o, r, d⟩ := c
  simp only [Cmd16.ofWord, Cmd16.toWord, Cmd16.mk.injEq]
  refine ⟨?_, ?_, ?_, ?_⟩
  all_goals
    apply BitVec.eq_of_getLsbD_eq
    intro k hk
    simp only [BitVec.getLsbD_extractLsb', BitVec.getLsbD_append, hk, decide_true, Bool.true_and]
    split_ifs <;> first | omega | (congr 1; omega)

/-- A word is the packing of its fields. -/
@[simp] theorem Cmd16.toWord_ofWord (w : CmdWord) : (Cmd16.ofWord w).toWord = w := by
  simp only [Cmd16.ofWord, Cmd16.toWord]
  apply BitVec.eq_of_getLsbD_eq
  intro k hk
  have hk : k < 16 := hk
  simp only [BitVec.getLsbD_extractLsb', BitVec.getLsbD_append]
  split_ifs <;> (rw [decide_eq_true (by omega), Bool.true_and]; congr 1; omega)

@[simp] theorem Engine.ofCode_code (e : Engine) : Engine.ofCode e.code = some e := by cases e <;> rfl

@[simp] theorem Op.ofCode_code (o : Op) : Op.ofCode o.code = some o := by cases o <;> rfl

/-- Only the number of an engine decodes to it (30_encoding.md R85). -/
theorem Engine.code_of_ofCode {c : BitVec 3} {e : Engine} (h : Engine.ofCode c = some e) : e.code = c := by
  revert h; revert c; cases e <;> decide

/-- Only the number of an operation decodes to it (30_encoding.md R86). -/
theorem Op.code_of_ofCode {c : BitVec 3} {o : Op} (h : Op.ofCode c = some o) : o.code = c := by
  revert h; revert c; cases o <;> decide

@[simp] theorem opField_encode (i : Instr) : opField (encode i) = i.op.code := by
  simp [opField, encode, Instr.fields]

/-- An instruction's word has a response exactly when it is RDIG or RSTAT (30_encoding.md R96). -/
theorem Machine.responds_encode (i : Instr) :
    Machine.responds (encode i) = (decide (i.op = .rdig) || decide (i.op = .rstat)) := by
  rw [Machine.responds, opField_encode]; cases i.op <;> rfl

end Sys2Proof
end

