-- ==== Sys2Proof/Laws/Engines.lean ====
section
/-! SUPPORT. The parts of the engines field by field: the two ways an ABSORB ends, the fields a FINALIZE leaves, the bytes
of the arrays the stages build, the lengths of the digests and schedules. -/

namespace Sys2Proof.Machine

section Md

variable {n : Nat} (compress : Vector Word n → Block → Vector Word n) (putLen : Block → BitCount → Block)
  (d : Byte) (c : MdCtx n)

/-- An ABSORB that does not fill the block stores the byte and counts it. -/
theorem mdAbsorb_of_room (h : c.fill.val + 1 ≠ 64) :
    mdAbsorb compress d c = { c with b := c.b.set c.fill d, fill := ⟨c.fill.val + 1, by omega⟩ } := by
  simp [mdAbsorb, h]

/-- An ABSORB that fills the block compresses it. -/
theorem mdAbsorb_of_full (h : c.fill.val + 1 = 64) :
    mdAbsorb compress d c =
      { h := compress c.h (c.b.set c.fill d), b := c.b.set c.fill d, fill := 0, len := c.len + 512, done := c.done } := by
  simp [mdAbsorb, h]

@[simp] theorem mdAbsorb_done : (mdAbsorb compress d c).done = c.done := by
  unfold mdAbsorb; split <;> rfl

@[simp] theorem mdFinalize_fill : (mdFinalize compress putLen c).fill = 0 := rfl
@[simp] theorem mdFinalize_len : (mdFinalize compress putLen c).len = totalBits c := rfl
@[simp] theorem mdFinalize_done : (mdFinalize compress putLen c).done = true := rfl

theorem mdFinalize_b : (mdFinalize compress putLen c).b =
    putLen (if needsExtraBlock c then Vector.replicate 64 0 else mdPad c.fill c.b) (totalBits c) := rfl

theorem mdFinalize_h : (mdFinalize compress putLen c).h =
    compress (if needsExtraBlock c then compress c.h (mdPad c.fill c.b) else c.h) (mdFinalize compress putLen c).b := rfl

/-- Bytes of the padded block: the message, `0x80`, zeros. -/
theorem mdPad_getElem (fill : Fin 64) (b : Block) (j : Nat) (hj : j < 64) :
    (mdPad fill b)[j] = if j < fill.val then b[j] else if j = fill.val then 0x80 else 0 := by
  simp only [mdPad, Vector.getElem_ofFn]

theorem putLE64_getElem (b : Block) (v : BitCount) (j : Nat) (hj : j < 64) :
    (putLE64 b v)[j] = if 56 ≤ j then v.extractLsb' (8 * (j - 56)) 8 else b[j] := by
  simp only [putLE64, Vector.getElem_ofFn]

theorem putBE64_getElem (b : Block) (v : BitCount) (j : Nat) (hj : j < 64) :
    (putBE64 b v)[j] = if 56 ≤ j then v.extractLsb' (56 - 8 * (j - 56)) 8 else b[j] := by
  simp only [putBE64, Vector.getElem_ofFn]

end Md

section Md2

variable (d : Byte) (c : Md2Ctx)

/-- An ABSORB that does not fill the MD2 block stores the byte and counts it. -/
theorem md2Absorb_of_room (h : c.fill.val + 1 ≠ 16) :
    md2Absorb d c = { c with b := c.b.set c.fill d, fill := ⟨c.fill.val + 1, by omega⟩ } := by
  simp [md2Absorb, h]

/-- An ABSORB that fills the MD2 block transforms it. -/
theorem md2Absorb_of_full (h : c.fill.val + 1 = 16) :
    md2Absorb d c =
      { x := (md2Transform c.x c.c (c.b.set c.fill d)).1, c := (md2Transform c.x c.c (c.b.set c.fill d)).2,
        b := c.b.set c.fill d, fill := 0, done := c.done } := by
  simp [md2Absorb, h]

@[simp] theorem md2Absorb_done : (md2Absorb d c).done = c.done := by
  unfold md2Absorb; split <;> rfl

@[simp] theorem md2Finalize_fill : (md2Finalize c).fill = 0 := rfl
@[simp] theorem md2Finalize_done : (md2Finalize c).done = true := rfl

theorem md2Pad_getElem (fill : Fin 16) (b : Md2Block) (j : Nat) (hj : j < 16) :
    (md2Pad fill b)[j] = if fill.val ≤ j then BitVec.ofNat 8 (16 - fill.val) else b[j] := by
  simp only [md2Pad, Vector.getElem_ofFn]

/-- The load stage does not read the old `X[16..47]` (10_state.md R36). -/
theorem md2Load_congr (x y : Md2Work) (m : Md2Block) (h : ∀ k : Fin 16, x[k.val] = y[k.val]) :
    md2Load x m = md2Load y m := by
  apply Vector.ext
  intro k hk
  simp only [md2Load, Vector.getElem_ofFn]
  split_ifs with h₁ h₂
  · exact h ⟨k, h₁⟩
  · rfl
  · exact congrArg (m[k - 32] ^^^ ·) (h ⟨k - 32, by omega⟩)

end Md2

section Sizes

@[simp] theorem wordBytesLE_length (w : Word) : (wordBytesLE w).length = 4 := rfl
@[simp] theorem wordBytesBE_length (w : Word) : (wordBytesBE w).length = 4 := rfl

theorem digestLE_length {n words : Nat} (h : Vector Word n) (hw : words ≤ n) : (digestLE words h).length = 4 * words := by
  simp [digestLE, hw, Nat.mul_comm]

theorem digestBE_length {n words : Nat} (h : Vector Word n) (hw : words ≤ n) : (digestBE words h).length = 4 * words := by
  simp [digestBE, hw, Nat.mul_comm]

@[simp] theorem digestDjb2_length (h : Word) : (digestDjb2 h).length = 4 := rfl
@[simp] theorem digestMd2_length (x : Md2Work) : (digestMd2 x).length = 16 := by simp [digestMd2]

@[simp] theorem extendSchedule_length (next : List Word → Word) (n : Nat) (ws : List Word) :
    (extendSchedule next n ws).length = ws.length + n := by
  induction n generalizing ws with
  | zero => rfl
  | succ n ih => simp [extendSchedule, ih]; omega

@[simp] theorem sha1Schedule_length (b : Block) : (sha1Schedule b).length = 80 := by simp [sha1Schedule, Config.sha1Steps]
@[simp] theorem sha2Schedule_length (b : Block) : (sha2Schedule b).length = 64 := by simp [sha2Schedule, Config.sha2Steps]

end Sizes

end Sys2Proof.Machine
end

