-- ==== Sys2Proof/Laws/Exec.lean ====
section
/-! SUPPORT. What a command does, said once: it takes the fault its checks find (`faultOf`), or else leaves its own effect
(`effectOf`). Proofs cite `exec_fault`, `exec_effect` and `exec_cases` and do not unfold the meanings. -/

namespace Sys2Proof.Machine

/-- The digest bytes of each engine. -/
def State.digest (s : State) : Engine → List Byte
  | .djb2 => digestDjb2 s.djb2.h
  | .md2 => digestMd2 s.md2.x
  | .md5 => digestLE 4 s.md5.h
  | .sha1 => digestBE 5 s.sha1.h
  | .sha224 => digestBE 7 s.sha224.h
  | .sha256 => digestBE 8 s.sha256.h

/-- What a command leaves when its checks find no fault. -/
def effectOf (i : Instr) (s : State) : State :=
  match i with
  | .djb2Init => s.setDjb2 initDjb2
  | .djb2Absorb b => s.setDjb2 { s.djb2 with h := djb2Step s.djb2.h b }
  | .djb2Finalize => s.setDjb2 { s.djb2 with done := true }
  | .djb2Rdig k => s.respond ((s.digest .djb2).getD k.toNat 0) false
  | .djb2Rstat => s.respond (status s .djb2) false
  | .md2Init => s.setMd2 initMd2
  | .md2Absorb b => s.setMd2 (md2Absorb b s.md2)
  | .md2Finalize => s.setMd2 (md2Finalize s.md2)
  | .md2Rdig k => s.respond ((s.digest .md2).getD k.toNat 0) false
  | .md2Rstat => s.respond (status s .md2) false
  | .md5Init => s.setMd5 initMd5
  | .md5Absorb b => s.setMd5 (mdAbsorb compressMd5 b s.md5)
  | .md5Finalize => s.setMd5 (mdFinalize compressMd5 putLE64 s.md5)
  | .md5Rdig k => s.respond ((s.digest .md5).getD k.toNat 0) false
  | .md5Rstat => s.respond (status s .md5) false
  | .sha1Init => s.setSha1 initSha1
  | .sha1Absorb b => s.setSha1 (mdAbsorb compressSha1 b s.sha1)
  | .sha1Finalize => s.setSha1 (mdFinalize compressSha1 putBE64 s.sha1)
  | .sha1Rdig k => s.respond ((s.digest .sha1).getD k.toNat 0) false
  | .sha1Rstat => s.respond (status s .sha1) false
  | .sha224Init => s.setSha224 initSha224
  | .sha224Absorb b => s.setSha224 (mdAbsorb compressSha2 b s.sha224)
  | .sha224Finalize => s.setSha224 (mdFinalize compressSha2 putBE64 s.sha224)
  | .sha224Rdig k => s.respond ((s.digest .sha224).getD k.toNat 0) false
  | .sha224Rstat => s.respond (status s .sha224) false
  | .sha256Init => s.setSha256 initSha256
  | .sha256Absorb b => s.setSha256 (mdAbsorb compressSha2 b s.sha256)
  | .sha256Finalize => s.setSha256 (mdFinalize compressSha2 putBE64 s.sha256)
  | .sha256Rdig k => s.respond ((s.digest .sha256).getD k.toNat 0) false
  | .sha256Rstat => s.respond (status s .sha256) false

theorem exec_eq (i : Instr) (s : State) : exec i s = complete (faultOf i s) (encode i) s (effectOf i s) := by
  cases i <;> rfl

/-- A command whose checks find a fault takes it and does nothing else (60_exceptions.md R307). -/
theorem exec_fault {i : Instr} {s : State} {k : FaultKind} (h : faultOf i s = some k) :
    exec i s = .next (takeFault k (encode i) s) := by
  rw [exec_eq, h, complete_some]

/-- A command whose checks find no fault leaves its own effect. -/
theorem exec_effect {i : Instr} {s : State} (h : faultOf i s = none) : exec i s = .next (effectOf i s) := by
  rw [exec_eq, h, complete_none]

/-- The two ways a command ends. -/
theorem exec_cases {i : Instr} {s t : State} (h : exec i s = .next t) :
    (∃ k, faultOf i s = some k ∧ t = takeFault k (encode i) s) ∨ (faultOf i s = none ∧ t = effectOf i s) := by
  rw [exec_eq] at h
  exact complete_next _ _ _ _ _ h

/-- The word of an instruction decodes to it, so running it is the instruction's meaning. -/
theorem runWord_of_decode {w : CmdWord} {i : Instr} (h : decode w = .ok i) (s : State) : runWord w s = exec i s := by
  simp [runWord, h]

/-- A word that decodes to nothing takes Illegal (60_exceptions.md R301). -/
theorem runWord_of_error {w : CmdWord} {r : Reserved} (h : decode w = .error r) (s : State) :
    runWord w s = .next (takeFault .illegal w s) := by
  simp [runWord, h]

end Sys2Proof.Machine
end

