-- ==== Sys2Proof/Laws/PerInstr.lean ====
section
/-! SUPPORT. What is said of every instruction as syntax, one lemma per constructor. `LegalWord`: its fields are well formed
(30_encoding.md R90), its word is the fields' word, and its word has a response exactly when its operation is RDIG or RSTAT
(R96). -/

namespace Sys2Proof.Laws.LegalWord

open Sys2Proof.Machine

/-- The family's statement. -/
def Statement (i : Instr) : Prop :=
  i.fields.wf = true ∧ Cmd16.ofWord (encode i) = i.fields ∧
    responds (encode i) = (decide (i.op = .rdig) || decide (i.op = .rstat))

theorem djb2Init : Statement .djb2Init :=
  ⟨rfl, Cmd16.ofWord_toWord _, by rw [responds_encode]⟩
theorem djb2Absorb (b : Byte) : Statement (.djb2Absorb b) :=
  ⟨rfl, Cmd16.ofWord_toWord _, by rw [responds_encode]⟩
theorem djb2Finalize : Statement .djb2Finalize :=
  ⟨rfl, Cmd16.ofWord_toWord _, by rw [responds_encode]⟩
theorem djb2Rdig (i : Byte) : Statement (.djb2Rdig i) :=
  ⟨rfl, Cmd16.ofWord_toWord _, by rw [responds_encode]⟩
theorem djb2Rstat : Statement .djb2Rstat :=
  ⟨rfl, Cmd16.ofWord_toWord _, by rw [responds_encode]⟩
theorem md2Init : Statement .md2Init :=
  ⟨rfl, Cmd16.ofWord_toWord _, by rw [responds_encode]⟩
theorem md2Absorb (b : Byte) : Statement (.md2Absorb b) :=
  ⟨rfl, Cmd16.ofWord_toWord _, by rw [responds_encode]⟩
theorem md2Finalize : Statement .md2Finalize :=
  ⟨rfl, Cmd16.ofWord_toWord _, by rw [responds_encode]⟩
theorem md2Rdig (i : Byte) : Statement (.md2Rdig i) :=
  ⟨rfl, Cmd16.ofWord_toWord _, by rw [responds_encode]⟩
theorem md2Rstat : Statement .md2Rstat :=
  ⟨rfl, Cmd16.ofWord_toWord _, by rw [responds_encode]⟩
theorem md5Init : Statement .md5Init :=
  ⟨rfl, Cmd16.ofWord_toWord _, by rw [responds_encode]⟩
theorem md5Absorb (b : Byte) : Statement (.md5Absorb b) :=
  ⟨rfl, Cmd16.ofWord_toWord _, by rw [responds_encode]⟩
theorem md5Finalize : Statement .md5Finalize :=
  ⟨rfl, Cmd16.ofWord_toWord _, by rw [responds_encode]⟩
theorem md5Rdig (i : Byte) : Statement (.md5Rdig i) :=
  ⟨rfl, Cmd16.ofWord_toWord _, by rw [responds_encode]⟩
theorem md5Rstat : Statement .md5Rstat :=
  ⟨rfl, Cmd16.ofWord_toWord _, by rw [responds_encode]⟩
theorem sha1Init : Statement .sha1Init :=
  ⟨rfl, Cmd16.ofWord_toWord _, by rw [responds_encode]⟩
theorem sha1Absorb (b : Byte) : Statement (.sha1Absorb b) :=
  ⟨rfl, Cmd16.ofWord_toWord _, by rw [responds_encode]⟩
theorem sha1Finalize : Statement .sha1Finalize :=
  ⟨rfl, Cmd16.ofWord_toWord _, by rw [responds_encode]⟩
theorem sha1Rdig (i : Byte) : Statement (.sha1Rdig i) :=
  ⟨rfl, Cmd16.ofWord_toWord _, by rw [responds_encode]⟩
theorem sha1Rstat : Statement .sha1Rstat :=
  ⟨rfl, Cmd16.ofWord_toWord _, by rw [responds_encode]⟩
theorem sha224Init : Statement .sha224Init :=
  ⟨rfl, Cmd16.ofWord_toWord _, by rw [responds_encode]⟩
theorem sha224Absorb (b : Byte) : Statement (.sha224Absorb b) :=
  ⟨rfl, Cmd16.ofWord_toWord _, by rw [responds_encode]⟩
theorem sha224Finalize : Statement .sha224Finalize :=
  ⟨rfl, Cmd16.ofWord_toWord _, by rw [responds_encode]⟩
theorem sha224Rdig (i : Byte) : Statement (.sha224Rdig i) :=
  ⟨rfl, Cmd16.ofWord_toWord _, by rw [responds_encode]⟩
theorem sha224Rstat : Statement .sha224Rstat :=
  ⟨rfl, Cmd16.ofWord_toWord _, by rw [responds_encode]⟩
theorem sha256Init : Statement .sha256Init :=
  ⟨rfl, Cmd16.ofWord_toWord _, by rw [responds_encode]⟩
theorem sha256Absorb (b : Byte) : Statement (.sha256Absorb b) :=
  ⟨rfl, Cmd16.ofWord_toWord _, by rw [responds_encode]⟩
theorem sha256Finalize : Statement .sha256Finalize :=
  ⟨rfl, Cmd16.ofWord_toWord _, by rw [responds_encode]⟩
theorem sha256Rdig (i : Byte) : Statement (.sha256Rdig i) :=
  ⟨rfl, Cmd16.ofWord_toWord _, by rw [responds_encode]⟩
theorem sha256Rstat : Statement .sha256Rstat :=
  ⟨rfl, Cmd16.ofWord_toWord _, by rw [responds_encode]⟩

end Sys2Proof.Laws.LegalWord
end

