-- ==== Sys2Proof/Laws/Port.lean ====
section
/-! SUPPORT. What one rising edge does, case by case: the six cases of `edge`, and the two of a command's edges. -/

namespace Sys2Proof.Machine

variable {p : PortIn} {s : State}

/-- A step is the edge of the host's next input on the state that has consumed it. -/
theorem step_eq (s : State) : step s = edge s.nextIn s.advance := rfl

theorem step_of_port {rest : List PortIn} (h : s.port = p :: rest) : step s = edge p (s.setPort rest) := by
  simp [step_eq, State.nextIn, State.advance, h]

theorem edge_reset (h : p.rst = true) : edge p s = .next s.resetEdge := by simp [edge, h]

theorem edge_settling (hr : p.rst = false) (h : s.settling = true) : edge p s = .next s.settled := by
  simp [edge, hr, h]

theorem edge_running {r : Running} (hr : p.rst = false) (hs : s.settling = false) (h : s.running = some r) :
    edge p s = continueRunning r s := by simp [edge, hr, hs, h]

theorem edge_full {q : Response} (hr : p.rst = false) (hs : s.settling = false) (hn : s.running = none)
    (h : s.rspq = some q) : edge p s = .next (if p.rspReady then s.takeResponse else s) := by
  simp [edge, hr, hs, hn, h]

theorem edge_accept (hr : p.rst = false) (hs : s.settling = false) (hn : s.running = none) (hq : s.rspq = none)
    (h : p.cmdValid = true) : edge p s = accept p.cmd s := by simp [edge, hr, hs, hn, hq, h]

theorem edge_idle (hr : p.rst = false) (hs : s.settling = false) (hn : s.running = none) (hq : s.rspq = none)
    (h : p.cmdValid = false) : edge p s = .next s := by simp [edge, hr, hs, hn, hq, h]

theorem accept_one {w : CmdWord} (h : edgesOf w s ≤ 1) : accept w s = runWord w s := by simp [accept, h]

theorem accept_more {w : CmdWord} (h : 1 < edgesOf w s) :
    accept w s = .next (s.setRunning (some { word := w, left := edgesOf w s - 1 })) := by
  simp [accept, Nat.not_le.mpr h]

theorem continueRunning_last {r : Running} (h : r.left ≤ 1) :
    continueRunning r s = runWord r.word (s.setRunning none) := by simp [continueRunning, h]

theorem continueRunning_more {r : Running} (h : 1 < r.left) :
    continueRunning r s = .next (s.setRunning (some { word := r.word, left := r.left - 1 })) := by
  simp [continueRunning, Nat.not_le.mpr h]

/-- Everything an edge can do: reset, settle, run a word (an accepted one, or one on its last edge), start or go on with
a command, or leave the core idle or waiting. -/
theorem edge_cases {t : State} (h : edge p s = .next t) :
    (p.rst = true ∧ t = s.resetEdge) ∨
    (p.rst = false ∧ s.settling = true ∧ t = s.settled) ∨
    (p.rst = false ∧ s.settling = false ∧ ∃ r, s.running = some r ∧ r.left ≤ 1 ∧
      runWord r.word (s.setRunning none) = .next t) ∨
    (p.rst = false ∧ s.settling = false ∧ ∃ r, s.running = some r ∧ 1 < r.left ∧
      t = s.setRunning (some { word := r.word, left := r.left - 1 })) ∨
    (p.rst = false ∧ s.settling = false ∧ s.running = none ∧ (∃ q, s.rspq = some q) ∧
      t = if p.rspReady then s.takeResponse else s) ∨
    (p.rst = false ∧ s.settling = false ∧ s.running = none ∧ s.rspq = none ∧ p.cmdValid = false ∧ t = s) ∨
    (p.rst = false ∧ s.settling = false ∧ s.running = none ∧ s.rspq = none ∧ p.cmdValid = true ∧
      edgesOf p.cmd s ≤ 1 ∧ runWord p.cmd s = .next t) ∨
    (p.rst = false ∧ s.settling = false ∧ s.running = none ∧ s.rspq = none ∧ p.cmdValid = true ∧
      1 < edgesOf p.cmd s ∧ t = s.setRunning (some { word := p.cmd, left := edgesOf p.cmd s - 1 })) := by
  cases hr : p.rst with
  | true =>
    rw [edge_reset hr, Host.Outcome.next.injEq] at h
    exact .inl ⟨rfl, h.symm⟩
  | false =>
  cases hs : s.settling with
  | true =>
    rw [edge_settling hr hs, Host.Outcome.next.injEq] at h
    exact .inr (.inl ⟨rfl, rfl, h.symm⟩)
  | false =>
  cases hn : s.running with
  | some r =>
    rw [edge_running hr hs hn] at h
    rcases Nat.lt_or_ge 1 r.left with hl | hl
    · rw [continueRunning_more hl, Host.Outcome.next.injEq] at h
      exact .inr (.inr (.inr (.inl ⟨rfl, rfl, r, rfl, hl, h.symm⟩)))
    · rw [continueRunning_last hl] at h
      exact .inr (.inr (.inl ⟨rfl, rfl, r, rfl, hl, h⟩))
  | none =>
  cases hq : s.rspq with
  | some q =>
    rw [edge_full hr hs hn hq, Host.Outcome.next.injEq] at h
    exact .inr (.inr (.inr (.inr (.inl ⟨rfl, rfl, rfl, ⟨q, rfl⟩, h.symm⟩))))
  | none =>
  cases hv : p.cmdValid with
  | false =>
    rw [edge_idle hr hs hn hq hv, Host.Outcome.next.injEq] at h
    exact .inr (.inr (.inr (.inr (.inr (.inl ⟨rfl, rfl, rfl, rfl, rfl, h.symm⟩)))))
  | true =>
    rw [edge_accept hr hs hn hq hv] at h
    rcases Nat.lt_or_ge 1 (edgesOf p.cmd s) with hl | hl
    · rw [accept_more hl, Host.Outcome.next.injEq] at h
      exact .inr (.inr (.inr (.inr (.inr (.inr (.inr ⟨rfl, rfl, rfl, rfl, rfl, hl, h.symm⟩))))))
    · rw [accept_one hl] at h
      exact .inr (.inr (.inr (.inr (.inr (.inr (.inl ⟨rfl, rfl, rfl, rfl, rfl, hl, h⟩))))))

end Sys2Proof.Machine
end

