-- ==== Sys2Proof/Tests/Slice0.lean ====
section
/-! SUPPORT. The model's own tests. Every expected value is the spec's: its worked examples, the tables of
95_test_vectors.md, or a word written out from the fields of 30_encoding.md R84. Each test is one command, or one edge.
Behind them, for every obligation with hypotheses, named theorems with concrete values that meet all of them together
(`witness_<obligation>`), one for each of its clauses. -/

open Sys2Proof Sys2Proof.Machine Sys2Proof.Claims

namespace Sys2Proof.Tests

/-- What a command leaves in a field. -/
def after {α : Type} (o : Host.Outcome State Fault Refusal) (f : State → α) : Option α :=
  match o with
  | .next t => some (f t)
  | .fault _ => none
  | .refused _ => none

/-- The bytes of "abc" and then zeros. -/
def abc64 : Block := Vector.ofFn fun k => [0x61, 0x62, 0x63].getD k.val 0

/-- A 64-byte block of "a". -/
def a64 : Block := Vector.replicate 64 0x61

/-- A context of the shared shape that buffers the first `fill` bytes of `b`. -/
def buffering {n : Nat} (iv : Vector Word n) (b : Block) (fill : Fin 64) : MdCtx n := { initMd iv with b := b, fill := fill }

/-- An MD2 context that buffers the first `fill` bytes of a block. -/
def buffering2 (b : Md2Block) (fill : Fin 16) : Md2Ctx := { initMd2 with b := b, fill := fill }

/-- The MD2 digest of "abc". -/
def md2Abc : List Byte := [0xDA, 0x85, 0x3B, 0x0D, 0x3F, 0x88, 0xD9, 0x9B, 0x30, 0x28, 0x3A, 0x69, 0xE6, 0xDE, 0xD6, 0xBB]

/-- The state right after reset, past the settling edge. -/
def idle : State := State.reset.settled

/-- Every engine finalized, with the "abc" digest of 95_test_vectors.md. -/
def hashed : State :=
  { idle with
    djb2 := { h := 0x0B885C8B, done := true }
    md2 := { initMd2 with x := Vector.ofFn fun k => md2Abc.getD k.val 0, done := true }
    md5 := { initMd5 with h := #v[0x98500190, 0xB04FD23C, 0x7D3F96D6, 0x727FE128], done := true }
    sha1 := { initSha1 with h := #v[0xA9993E36, 0x4706816A, 0xBA3E2571, 0x7850C26C, 0x9CD0D89D], done := true }
    sha224 := { initSha224 with
      h := #v[0x23097D22, 0x3405D822, 0x8642A477, 0xBDA255B3, 0x2AADBCE4, 0xBDA0B3F7, 0xE36C9DA7, 0xD2DA082D],
      done := true }
    sha256 := { initSha256 with
      h := #v[0xBA7816BF, 0x8F01CFEA, 0x414140DE, 0x5DAE2223, 0xB00361A3, 0x96177A9C, 0xB410FF61, 0xF20015AD],
      done := true } }

/-- Every context with a partial block: MD2 with `k` bytes, the others with `n`. -/
def partway (k : Fin 16) (n : Fin 64) : State :=
  { idle with
    md2 := buffering2 (Vector.replicate 16 0) k
    md5 := buffering ivMd5 a64 n
    sha1 := buffering ivSha1 a64 n
    sha224 := buffering ivSha224 a64 n
    sha256 := buffering ivSha256 a64 n }

/-- A response as a value. -/
def resp (d : Byte) (e : Bool) : Option Response := some { data := d, err := e }

/-! ## Well-formedness: each check refuses a term that breaks it alone (30_encoding.md R90) -/

theorem test_wf_ok :
    Cmd16.wf { eng := 5, op := 3, rsv := 0, imm8 := 0x1F } = true := by
  decide

theorem test_wf_engine :
    Cmd16.wf { eng := 6, op := 0, rsv := 0, imm8 := 0 } = false := by
  decide

theorem test_wf_operation :
    Cmd16.wf { eng := 0, op := 5, rsv := 0, imm8 := 0 } = false := by
  decide

theorem test_wf_rsv :
    Cmd16.wf { eng := 1, op := 1, rsv := 1, imm8 := 0x61 } = false := by
  decide

theorem test_wf_imm :
    Cmd16.wf { eng := 1, op := 4, rsv := 0, imm8 := 1 } = false := by
  decide

/-! ## Decode: words written out from the fields ENG, OP, RSV, IMM8 (30_encoding.md R84, R85, R86, R93) -/

theorem test_decode_djb2 :
    decode 0b000_000_00_00000000 = .ok .djb2Init ∧
    decode 0b000_001_00_10100101 = .ok (.djb2Absorb 0xA5) ∧
    decode 0b000_010_00_00000000 = .ok .djb2Finalize ∧
    decode 0b000_011_00_00000011 = .ok (.djb2Rdig 0x03) ∧
    decode 0b000_100_00_00000000 = .ok .djb2Rstat := by
  decide

theorem test_decode_md2 :
    decode 0b001_000_00_00000000 = .ok .md2Init ∧
    decode 0b001_001_00_10100101 = .ok (.md2Absorb 0xA5) ∧
    decode 0b001_010_00_00000000 = .ok .md2Finalize ∧
    decode 0b001_011_00_00000011 = .ok (.md2Rdig 0x03) ∧
    decode 0b001_100_00_00000000 = .ok .md2Rstat := by
  decide

theorem test_decode_md5 :
    decode 0b010_000_00_00000000 = .ok .md5Init ∧
    decode 0b010_001_00_10100101 = .ok (.md5Absorb 0xA5) ∧
    decode 0b010_010_00_00000000 = .ok .md5Finalize ∧
    decode 0b010_011_00_00000011 = .ok (.md5Rdig 0x03) ∧
    decode 0b010_100_00_00000000 = .ok .md5Rstat := by
  decide

theorem test_decode_sha1 :
    decode 0b011_000_00_00000000 = .ok .sha1Init ∧
    decode 0b011_001_00_10100101 = .ok (.sha1Absorb 0xA5) ∧
    decode 0b011_010_00_00000000 = .ok .sha1Finalize ∧
    decode 0b011_011_00_00000011 = .ok (.sha1Rdig 0x03) ∧
    decode 0b011_100_00_00000000 = .ok .sha1Rstat := by
  decide

theorem test_decode_sha224 :
    decode 0b100_000_00_00000000 = .ok .sha224Init ∧
    decode 0b100_001_00_10100101 = .ok (.sha224Absorb 0xA5) ∧
    decode 0b100_010_00_00000000 = .ok .sha224Finalize ∧
    decode 0b100_011_00_00000011 = .ok (.sha224Rdig 0x03) ∧
    decode 0b100_100_00_00000000 = .ok .sha224Rstat := by
  decide

theorem test_decode_sha256 :
    decode 0b101_000_00_00000000 = .ok .sha256Init ∧
    decode 0b101_001_00_10100101 = .ok (.sha256Absorb 0xA5) ∧
    decode 0b101_010_00_00000000 = .ok .sha256Finalize ∧
    decode 0b101_011_00_00000011 = .ok (.sha256Rdig 0x03) ∧
    decode 0b101_100_00_00000000 = .ok .sha256Rstat := by
  decide

/-- The illegal words of 95_test_vectors.md section 2.2, each by the name of its space. -/
theorem test_decode_reserved :
    [0x3001, 0x2001, 0x2561, 0x0BFF, 0x0D00, 0x1400, 0x1C00, 0xC000, 0xEC05].map decode =
    ([.immField, .immField, .rsvField, .rsvField, .rsvField, .operation, .operation, .engine, .engine] :
      List Reserved).map .error := by
  decide

/-- The response column of 95_test_vectors.md section 2.2. -/
theorem test_responds :
    [0x0000, 0x2461, 0x2C0F, 0x3000, 0x3001, 0x2001, 0x0D00, 0x1400, 0xC000, 0xEC05].map responds =
    [false, false, true, true, true, false, true, false, false, true] := by
  decide

theorem test_decode_table_word :
    decodeTableWord 16 0xAC1F = some (.sha256Rdig 31) ∧ decodeTableWord 16 0xC000 = none := by
  decide

/-! ## Primitives and tables -/

/-- 42_md2.md R152. -/
theorem test_rom_s :
    romS 0x00 = 0x29 ∧ romS 0x10 = 0x62 ∧ romS 0xDD = 0x00 ∧ romS 0xFF = 0x14 := by
  decide +kernel

/-! ## djb2 -/

theorem test_djb2_init :
    after (exec .djb2Init hashed) State.djb2 = some { h := 0x00001505, done := false } := by
  decide

/-- Zero-extended; a sign-extending model gives 0x0002B5A4. -/
theorem test_djb2_absorb_sign :
    after (exec (.djb2Absorb 0xFF) idle) (·.djb2.h) = some 0x0002B6A4 := by
  decide

theorem test_djb2_absorb_wraps :
    after (exec (.djb2Absorb 0x61) { idle with djb2 := { h := 0x0B885C68, done := false } }) (·.djb2.h) =
    some 0x7C93E9C9 := by
  decide

theorem test_djb2_finalize_twice :
    after (exec .djb2Finalize hashed) (fun t => (t.djb2, t.err)) = some (hashed.djb2, 0) := by
  decide

theorem test_djb2_rdig :
    after (exec (.djb2Rdig 0) hashed) State.rspq = some (resp 0x0B false) ∧
    after (exec (.djb2Rdig 3) hashed) State.rspq = some (resp 0x8B false) := by
  decide

theorem test_djb2_rdig_range :
    after (exec (.djb2Rdig 4) hashed) (fun t => (t.rspq, t.err, t.errCmd)) = some (resp 0x00 true, 0b1000, 0x0C04) := by
  decide

/-- The last response of program P2. -/
theorem test_djb2_rstat :
    after (exec .djb2Rstat { hashed with err := 0b0010, errCmd := 0x0461 }) State.rspq = some (resp 0x05 false) := by
  decide

/-! ## MD2 -/

/-- The last row of 95_test_vectors.md section 2.7: INIT does not clear ERR. -/
theorem test_md2_init :
    after (exec .md2Init { hashed with err := 0b0010, errCmd := 0x2400 }) (fun t => (t.md2, t.err, t.errCmd)) =
    some (initMd2, 0b0010, 0x2400) := by
  decide

/-- One transform of a zero block (95_test_vectors.md section 2.4). -/
theorem test_md2_absorb_zero_block :
    after (exec (.md2Absorb 0x00) (partway 15 0)) (fun t => (t.md2.fill, t.md2.x.toList.take 16, t.md2.c)) =
    some (0, [0x31, 0x81, 0x7B, 0x3B, 0xC7, 0x7D, 0x83, 0x57, 0x97, 0x31, 0x3D, 0x52, 0x6E, 0x88, 0xB8, 0x63],
      #v[0x29, 0x42, 0x79, 0xFC, 0x9F, 0x0F, 0x13, 0xF3, 0xB4, 0x85, 0x71, 0xB8, 0xD3, 0x8B, 0x65, 0xA5]) := by
  decide +kernel

/-- The end state of program P1. -/
theorem test_md2_finalize_abc :
    after (exec .md2Finalize { idle with md2 := buffering2 (Vector.ofFn fun k => [0x61, 0x62, 0x63].getD k.val 0) 3 })
      (fun t => (t.md2.x.toList.take 16, t.md2.b, t.md2.c, t.md2.done)) =
    some (md2Abc,
      #v[0x19, 0xE2, 0x9D, 0x1B, 0x73, 0x04, 0x36, 0x8E, 0x59, 0x5A, 0x27, 0x6F, 0x30, 0x2F, 0x57, 0xCC],
      #v[0x7A, 0xFE, 0x2E, 0x85, 0x6C, 0xD3, 0x6E, 0x7C, 0x8D, 0x37, 0x45, 0x00, 0x8E, 0x68, 0x2D, 0x23], true) := by
  decide +kernel

theorem test_md2_finalize_empty :
    after (exec .md2Finalize idle) (fun t => t.md2.x.toList.take 16) =
    some [0x83, 0x50, 0xE5, 0xA3, 0xE2, 0x4C, 0x15, 0x3D, 0xF2, 0x27, 0x5C, 0x9F, 0x80, 0x69, 0x27, 0x73] := by
  decide +kernel

theorem test_md2_rdig :
    after (exec (.md2Rdig 0) hashed) State.rspq = some (resp 0xDA false) ∧
    after (exec (.md2Rdig 15) hashed) State.rspq = some (resp 0xBB false) := by
  decide

/-- NotDone has priority over Range (95_test_vectors.md section 2.7). -/
theorem test_md2_rdig_priority :
    after (exec (.md2Rdig 16) idle) (fun t => (t.rspq, t.err, t.errCmd)) = some (resp 0x00 true, 0b0100, 0x2C10) := by
  decide

theorem test_md2_rstat :
    after (exec .md2Rstat idle) State.rspq = some (resp 0x00 false) ∧
    after (exec .md2Rstat { hashed with err := 0b0010, errCmd := 0x2400 }) State.rspq = some (resp 0x05 false) := by
  decide

/-! ## Md5 -/

theorem test_md5_init :
    after (exec .md5Init hashed) (fun t => (t.md5.h, t.md5.fill, t.md5.len, t.md5.done)) = some (ivMd5, 0, 0, false) ∧
    after (exec .md5Init hashed) (·.md5.h[0]) = some 0x67452301 := by
  decide

theorem test_md5_absorb_room :
    after (exec (.md5Absorb 0x61) idle) (fun t => (t.md5.b[0], t.md5.fill, t.md5.h)) = some (0x61, 1, ivMd5) := by
  decide

/-- 64 ABSORBs of "a" (95_test_vectors.md section 2.6). -/
theorem test_md5_absorb_full :
    after (exec (.md5Absorb 0x61) (partway 0 63)) (fun t => (t.md5.h, t.md5.len, t.md5.fill)) =
    some (#v[0x89D4FF56, 0x125CD962, 0x69CADE33, 0x0033E325], 512, 0) := by
  decide +kernel

theorem test_md5_finalize_abc :
    after (exec .md5Finalize { idle with md5 := buffering ivMd5 abc64 3 }) (fun t => (t.md5.h, t.md5.len)) =
    some (#v[0x98500190, 0xB04FD23C, 0x7D3F96D6, 0x727FE128], 24) := by
  decide +kernel

/-- 56 bytes of "a": the two-block padding path (95_test_vectors.md section 2.6). -/
theorem test_md5_finalize_two_blocks :
    after (exec .md5Finalize (partway 0 56)) (fun t => (t.md5.h, t.md5.len)) =
    some (#v[0xC78A0C3B, 0xB028F803, 0x70196C4C, 0x1872D106], 448) := by
  decide +kernel

theorem test_md5_rdig :
    after (exec (.md5Rdig 0) hashed) State.rspq = some (resp 0x90 false) ∧
    after (exec (.md5Rdig 3) hashed) State.rspq = some (resp 0x98 false) := by
  decide

theorem test_md5_rdig_range :
    after (exec (.md5Rdig 16) hashed) (fun t => (t.rspq, t.err, t.errCmd)) =
    some (resp 0x00 true, 0b1000, 0x4C10) := by
  decide

theorem test_md5_rstat :
    after (exec .md5Rstat { hashed with err := 0b0101, errCmd := 0xC000 }) State.rspq = some (resp 0x0B false) := by
  decide

/-! ## Sha1 -/

theorem test_sha1_init :
    after (exec .sha1Init hashed) (fun t => (t.sha1.h, t.sha1.fill, t.sha1.len, t.sha1.done)) = some (ivSha1, 0, 0, false) ∧
    after (exec .sha1Init hashed) (·.sha1.h[4]) = some 0xC3D2E1F0 := by
  decide

theorem test_sha1_absorb_room :
    after (exec (.sha1Absorb 0x61) idle) (fun t => (t.sha1.b[0], t.sha1.fill, t.sha1.h)) = some (0x61, 1, ivSha1) := by
  decide

theorem test_sha1_finalize_abc :
    after (exec .sha1Finalize { idle with sha1 := buffering ivSha1 abc64 3 }) (fun t => (t.sha1.h, t.sha1.len)) =
    some (#v[0xA9993E36, 0x4706816A, 0xBA3E2571, 0x7850C26C, 0x9CD0D89D], 24) := by
  decide +kernel

/-- 56 bytes of "a": the two-block padding path (95_test_vectors.md section 2.6). -/
theorem test_sha1_finalize_two_blocks :
    after (exec .sha1Finalize (partway 0 56)) (fun t => (t.sha1.h, t.sha1.len)) =
    some (#v[0xC2DB330F, 0x6083854C, 0x99D4B5BF, 0xB6E8F29F, 0x201BE699], 448) := by
  decide +kernel

theorem test_sha1_rdig :
    after (exec (.sha1Rdig 0) hashed) State.rspq = some (resp 0xA9 false) ∧
    after (exec (.sha1Rdig 19) hashed) State.rspq = some (resp 0x9D false) := by
  decide

theorem test_sha1_rdig_range :
    after (exec (.sha1Rdig 20) hashed) (fun t => (t.rspq, t.err, t.errCmd)) =
    some (resp 0x00 true, 0b1000, 0x6C14) := by
  decide

theorem test_sha1_rstat :
    after (exec .sha1Rstat { hashed with err := 0b0101, errCmd := 0xC000 }) State.rspq = some (resp 0x0B false) := by
  decide

/-! ## Sha224 -/

theorem test_sha224_init :
    after (exec .sha224Init hashed) (fun t => (t.sha224.h, t.sha224.fill, t.sha224.len, t.sha224.done)) = some (ivSha224, 0, 0, false) ∧
    after (exec .sha224Init hashed) (·.sha224.h[0]) = some 0xC1059ED8 := by
  decide

theorem test_sha224_absorb_room :
    after (exec (.sha224Absorb 0x61) idle) (fun t => (t.sha224.b[0], t.sha224.fill, t.sha224.h)) = some (0x61, 1, ivSha224) := by
  decide

/-- 46_sha2.md R283. -/
theorem test_sha224_absorb_full :
    after (exec (.sha224Absorb 0x61) (partway 0 63)) (fun t => (t.sha224.len, t.sha224.fill)) = some (512, 0) := by
  decide +kernel

theorem test_sha224_finalize_abc :
    after (exec .sha224Finalize { idle with sha224 := buffering ivSha224 abc64 3 }) (fun t => (t.sha224.h, t.sha224.len)) =
    some (#v[0x23097D22, 0x3405D822, 0x8642A477, 0xBDA255B3, 0x2AADBCE4, 0xBDA0B3F7, 0xE36C9DA7, 0xD2DA082D], 24) := by
  decide +kernel

/-- 56 bytes of "a": the two-block padding path (95_test_vectors.md section 2.6). -/
theorem test_sha224_finalize_two_blocks :
    after (exec .sha224Finalize (partway 0 56)) (fun t => (t.sha224.h, t.sha224.len)) =
    some (#v[0xD40854FC, 0x9CAF1720, 0x67136F2E, 0x29E1380B, 0x14626BF6, 0xF0DD0677, 0x9F820DCD, 0xF97FA6DB], 448) := by
  decide +kernel

theorem test_sha224_rdig :
    after (exec (.sha224Rdig 0) hashed) State.rspq = some (resp 0x23 false) ∧
    after (exec (.sha224Rdig 27) hashed) State.rspq = some (resp 0xA7 false) := by
  decide

theorem test_sha224_rdig_range :
    after (exec (.sha224Rdig 28) hashed) (fun t => (t.rspq, t.err, t.errCmd)) =
    some (resp 0x00 true, 0b1000, 0x8C1C) := by
  decide

theorem test_sha224_rstat :
    after (exec .sha224Rstat { hashed with err := 0b0101, errCmd := 0xC000 }) State.rspq = some (resp 0x0B false) := by
  decide

/-! ## Sha256 -/

theorem test_sha256_init :
    after (exec .sha256Init hashed) (fun t => (t.sha256.h, t.sha256.fill, t.sha256.len, t.sha256.done)) = some (ivSha256, 0, 0, false) ∧
    after (exec .sha256Init hashed) (·.sha256.h[0]) = some 0x6A09E667 := by
  decide

theorem test_sha256_absorb_room :
    after (exec (.sha256Absorb 0x61) idle) (fun t => (t.sha256.b[0], t.sha256.fill, t.sha256.h)) = some (0x61, 1, ivSha256) := by
  decide

theorem test_sha256_finalize_abc :
    after (exec .sha256Finalize { idle with sha256 := buffering ivSha256 abc64 3 }) (fun t => (t.sha256.h, t.sha256.len)) =
    some (#v[0xBA7816BF, 0x8F01CFEA, 0x414140DE, 0x5DAE2223, 0xB00361A3, 0x96177A9C, 0xB410FF61, 0xF20015AD], 24) := by
  decide +kernel

/-- 56 bytes of "a": the two-block padding path (95_test_vectors.md section 2.6). -/
theorem test_sha256_finalize_two_blocks :
    after (exec .sha256Finalize (partway 0 56)) (fun t => (t.sha256.h, t.sha256.len)) =
    some (#v[0xB35439A4, 0xAC6F0948, 0xB6D6F9E3, 0xC6AF0F5F, 0x590CE20F, 0x1BDE7090, 0xEF797068, 0x6EC6738A], 448) := by
  decide +kernel

theorem test_sha256_rdig :
    after (exec (.sha256Rdig 0) hashed) State.rspq = some (resp 0xBA false) ∧
    after (exec (.sha256Rdig 31) hashed) State.rspq = some (resp 0xAD false) := by
  decide

theorem test_sha256_rdig_range :
    after (exec (.sha256Rdig 32) hashed) (fun t => (t.rspq, t.err, t.errCmd)) =
    some (resp 0x00 true, 0b1000, 0xAC20) := by
  decide

theorem test_sha256_rstat :
    after (exec .sha256Rstat { hashed with err := 0b0101, errCmd := 0xC000 }) State.rspq = some (resp 0x0B false) := by
  decide

/-! ## Faults (95_test_vectors.md section 2.7), reset and ports -/

theorem test_spent_absorb :
    after (exec (.md2Absorb 0x00) hashed) (fun t => (t.md2, t.rspq, t.err, t.errCmd)) = some (hashed.md2, none, 0b0010, 0x2400) := by
  decide

theorem test_spent_finalize :
    after (exec .md2Finalize hashed) (fun t => (t.md2, t.rspq, t.err, t.errCmd)) = some (hashed.md2, none, 0b0010, 0x2800) := by
  decide

theorem test_illegal :
    after (runWord 0xC000 idle) (fun t => (t.rspq, t.err, t.errCmd)) = some (none, 0b0001, 0xC000) ∧
    after (runWord 0xEC05 idle) (fun t => (t.rspq, t.err, t.errCmd)) = some (resp 0x00 true, 0b0001, 0xEC05) := by
  decide

/-- The first faulting word is kept. -/
theorem test_second_fault :
    after (runWord 0x2C00 { idle with err := 0b0001, errCmd := 0xC000 }) (fun t => (t.rspq, t.err, t.errCmd)) =
    some (resp 0x00 true, 0b0101, 0xC000) := by
  decide

theorem test_reset_status :
    after (exec .sha256Rstat State.reset) State.rspq = some (resp 0x00 false) := by
  decide

theorem test_fetch :
    after (step (State.reset.withFetchWord 16 0x0461)) (·.djb2.h) = some 0x0002B606 := by
  decide

/-- The first edge after reset accepts nothing (70_reset_and_hazards.md R331). -/
theorem test_settling_edge :
    after (step { State.reset with port := [PortIn.present 0x0461] }) (fun t => (t.djb2.h, t.settling)) = some (0x00001505, false) := by
  decide

/-! ## The assembler (30_encoding.md R98 to R100) -/

theorem test_assemble_word :
    Asm.program ["sha1.absorb 'a' ; comment".toList, ".word 0xC000".toList, "".toList, "md2.rdig 15".toList] =
    .ok [0x6461, 0xC000, 0x2C0F] := by
  decide +kernel

theorem test_assemble_pseudo :
    Asm.program ["djb2.absorbs [1, 0x02]".toList, "djb2.hash \"a\"".toList] =
    .ok [0x0401, 0x0402, 0x0000, 0x0461, 0x0800, 0x0C00, 0x0C01, 0x0C02, 0x0C03] := by
  decide +kernel

theorem test_assemble_range :
    Asm.line "md2.absorb 256".toList = .error .operandOutOfRange := by
  decide +kernel

/-! ## Witnesses: values that meet the hypotheses of each obligation -/

/-- A core that finalized djb2, answers a read, and has the response waiting. -/
def waiting : State := { idle with rspq := resp 0x7C false, port := [{ PortIn.idle with rspReady := true }] }

/-- A core after one illegal word. -/
def faultedState : State := { idle with err := 0b0001, errCmd := 0xC000 }

/-- Three edges for each INIT, one for everything else. -/
def slowInit : Latency := { Latency.unit with init := 3 }


theorem witness_CommandMapDecodes_and_encodings :
    decode 0b000_001_00_11111111 = .ok (.djb2Absorb 0xFF) ∧ encode (.djb2Absorb 0xFF) = 0x04FF := by
  decide

theorem witness_DecodeIsTotalAndOneToOne :
    LegalWord 0xAC1F ∧ ¬ LegalWord 0xEC05 := by
  unfold LegalWord; decide

theorem witness_Djb2AbsorbResult :
    idle.djb2.done = false ∧ hashed.djb2.done = true := by
  decide

theorem witness_Md2AbsorbResult :
    (partway 14 0).md2.done = false ∧ (partway 14 0).md2.fill.val + 1 < 16 ∧
    (partway 15 0).md2.done = false ∧ (partway 15 0).md2.fill.val + 1 = 16 ∧ hashed.md2.done = true := by
  decide

theorem witness_MdAbsorbResults :
    ((partway 0 62).md5.done = false ∧ (partway 0 62).md5.fill.val + 1 < 64 ∧ (partway 0 63).md5.fill.val + 1 = 64 ∧
      hashed.md5.done = true) ∧
    ((partway 0 62).sha1.done = false ∧ (partway 0 62).sha1.fill.val + 1 < 64 ∧ (partway 0 63).sha1.fill.val + 1 = 64 ∧
      hashed.sha1.done = true) ∧
    ((partway 0 62).sha224.done = false ∧ (partway 0 62).sha224.fill.val + 1 < 64 ∧
      (partway 0 63).sha224.fill.val + 1 = 64 ∧ hashed.sha224.done = true) ∧
    ((partway 0 62).sha256.done = false ∧ (partway 0 62).sha256.fill.val + 1 < 64 ∧
      (partway 0 63).sha256.fill.val + 1 = 64 ∧ hashed.sha256.done = true) := by
  decide

theorem witness_Md2FinalizeResult :
    (partway 0 0).md2.done = false ∧ (partway 15 0).md2.done = false ∧ hashed.md2.done = true := by
  decide

theorem witness_MdFinalizeResults :
    ((partway 0 55).md5.done = false ∧ (partway 0 55).md5.fill.val ≤ 55 ∧ 56 ≤ (partway 0 56).md5.fill.val ∧
      hashed.md5.done = true) ∧
    ((partway 0 55).sha1.done = false ∧ (partway 0 55).sha1.fill.val ≤ 55 ∧ 56 ≤ (partway 0 56).sha1.fill.val ∧
      hashed.sha1.done = true) ∧
    ((partway 0 55).sha224.done = false ∧ (partway 0 55).sha224.fill.val ≤ 55 ∧ 56 ≤ (partway 0 56).sha224.fill.val ∧
      hashed.sha224.done = true) ∧
    ((partway 0 55).sha256.done = false ∧ (partway 0 55).sha256.fill.val ≤ 55 ∧ 56 ≤ (partway 0 56).sha256.fill.val ∧
      hashed.sha256.done = true) := by
  decide

theorem witness_RdigOfDjb2AndMd2 :
    idle.djb2.done = false ∧ hashed.djb2.done = true ∧ (3 : Byte).toNat < 4 ∧ 4 ≤ (4 : Byte).toNat ∧
    idle.md2.done = false ∧ hashed.md2.done = true ∧ (15 : Byte).toNat < 16 ∧ 16 ≤ (16 : Byte).toNat := by
  decide

theorem witness_RdigOfMd5 :
    idle.md5.done = false ∧ hashed.md5.done = true ∧ (15 : Byte).toNat = 4 * 3 + 3 ∧ 16 ≤ (16 : Byte).toNat := by
  decide

theorem witness_RdigOfSha :
    idle.sha1.done = false ∧ hashed.sha1.done = true ∧ (19 : Byte).toNat = 4 * 4 + 3 ∧ 20 ≤ (20 : Byte).toNat ∧
    idle.sha224.done = false ∧ hashed.sha224.done = true ∧ (27 : Byte).toNat = 4 * 6 + 3 ∧ 28 ≤ (28 : Byte).toNat ∧
    idle.sha256.done = false ∧ hashed.sha256.done = true ∧ (31 : Byte).toNat = 4 * 7 + 3 ∧ 32 ≤ (32 : Byte).toNat := by
  decide

theorem witness_RstatResults :
    (0x3001 : CmdWord).extractLsb' 10 3 = 4 ∧ ¬ LegalWord 0x3001 := by
  unfold LegalWord; decide

theorem witness_FaultPriority :
    [firstFault 0xEC05 idle, firstFault 0x2400 hashed, firstFault 0x2800 hashed, firstFault 0x2C10 idle,
      firstFault 0x2C10 hashed, firstFault 0x2C0F hashed, firstFault 0x0800 hashed] =
    [some 0, some 1, some 1, some 2, some 3, none, none] := by
  decide

theorem witness_ResponseExactlyWhenShaped :
    idle.rspq = none ∧ runWord 0xEC05 idle = .next (takeFault .illegal 0xEC05 idle) ∧
    (takeFault .illegal 0xEC05 idle).rspq = resp 0x00 true ∧
    exec .md2Rstat idle = .next (idle.respond 0x00 false) ∧ runWord 0x3000 idle = exec .md2Rstat idle := by
  exact ⟨rfl, rfl, rfl, rfl, rfl⟩

theorem witness_FaultRegistersAreSticky :
    faultedState.nextIn.rst = false ∧ step faultedState = .next faultedState ∧
    faultedState.err.getLsbD 0 = true ∧ faultedState.err ≠ 0 := by
  exact ⟨rfl, rfl, by decide, by decide⟩

theorem witness_FrameOfEveryCommand :
    (∃ t, exec (.sha224Absorb 1) idle = .next t) ∧ (Instr.sha224Absorb 1).op = .absorb ∧ Engine.md2 ≠ (Instr.sha224Absorb 1).engine ∧
    (∃ t, exec .sha1Init idle = .next t) ∧ Instr.sha1Init.op = .init ∧
    (∃ t, exec .md5Finalize hashed = .next t) ∧ Instr.md5Finalize.op = .finalize ∧
    (∃ t, exec (.md2Rdig 0) idle = .next t) ∧ (Instr.md2Rdig 0).op = .rdig ∧
    (∃ t, exec .md2Rstat idle = .next t) ∧ Instr.md2Rstat.op = .rstat := by
  refine ⟨⟨_, exec_effect rfl⟩, rfl, by decide, ⟨_, exec_effect rfl⟩, rfl, ⟨_, exec_fault rfl⟩, rfl, ⟨_, exec_fault rfl⟩, rfl,
    ⟨_, exec_effect rfl⟩, rfl⟩

theorem witness_DoneChangesOnlyByInitAndFinalize :
    exec .djb2Finalize idle = .next (effectOf .djb2Finalize idle) ∧ (effectOf .djb2Finalize idle).done .djb2 ≠ idle.done .djb2 ∧
    exec .djb2Init hashed = .next (effectOf .djb2Init hashed) ∧ (effectOf .djb2Init hashed).done .djb2 ≠ hashed.done .djb2 := by
  exact ⟨rfl, by decide, rfl, by decide⟩

theorem witness_EngineIsolation :
    Engine.md2 ≠ (Instr.sha1Init).engine ∧ SameContext .md2 idle { hashed with md2 := idle.md2 } ∧
    SameFaults idle { hashed with md2 := idle.md2 } ∧ { hashed with md2 := idle.md2 }.rspq = idle.rspq := by
  exact ⟨by decide, rfl, ⟨rfl, rfl⟩, rfl⟩

theorem witness_ContextsAreOpaque :
    (∀ e, ({ hashed with md2 := { hashed.md2 with x := Vector.replicate 48 1 } } : State).done e = hashed.done e) ∧
    hashed.md2.x ≠ Vector.replicate 48 1 ∧
    SameFaults hashed { hashed with md2 := { hashed.md2 with x := Vector.replicate 48 1 } } ∧
    hashed.done (Instr.md2Rdig 16).engine = true ∧ digestLength (Instr.md2Rdig 16).engine ≤ (Instr.md2Rdig 16).imm8.toNat ∧
    Instr.md2Rstat.op ≠ .rdig := by
  refine ⟨fun e => by cases e <;> rfl, by decide, ⟨rfl, rfl⟩, rfl, by decide, by decide⟩

theorem witness_ReadsRepeat :
    (Instr.md2Rdig 0).op = .rdig ∧ Instr.md2Rstat.op = .rstat := by
  decide

theorem witness_StepRunsTheDecodedCommand :
    Ready { idle with port := [PortIn.present 0x0461] } ∧ Presents (PortIn.present 0x0461) 0x0461 ∧
    edgesOf 0x0461 { idle with port := [PortIn.present 0x0461] } ≤ 1 ∧ decode 0x0461 = .ok (.djb2Absorb 0x61) ∧
    Presents (PortIn.present 0xC000) 0xC000 ∧ edgesOf 0xC000 { idle with port := [PortIn.present 0xC000] } ≤ 1 ∧
    ¬ LegalWord 0xC000 := by
  refine ⟨⟨rfl, rfl, rfl⟩, ⟨rfl, rfl, rfl⟩, by decide, by decide, ⟨rfl, rfl, rfl⟩, by decide, ?_⟩
  unfold LegalWord; decide

theorem witness_CommandTakesItsEdges_one :
    Ready { idle with port := [PortIn.present 0x0461] } ∧ Presents (PortIn.present 0x0461) 0x0461 ∧
    ([] : List PortIn).length + 1 = max 1 (edgesOf 0x0461 { idle with port := [PortIn.present 0x0461] }) := by
  exact ⟨⟨rfl, rfl, rfl⟩, ⟨rfl, rfl, rfl⟩, by decide⟩

theorem witness_CommandTakesItsEdges_three :
    Ready { idle with lat := slowInit, port := PortIn.present 0x2000 :: [PortIn.idle, PortIn.present 0x3000] ++ [] } ∧
    Presents (PortIn.present 0x2000) 0x2000 ∧ (∀ q ∈ [PortIn.idle, PortIn.present 0x3000], q.rst = false) ∧
    [PortIn.idle, PortIn.present 0x3000].length + 1 =
      max 1 (edgesOf 0x2000 { idle with lat := slowInit, port := PortIn.present 0x2000 :: [PortIn.idle, PortIn.present 0x3000] ++ [] }) := by
  exact ⟨⟨rfl, rfl, rfl⟩, ⟨rfl, rfl, rfl⟩, by decide, by decide⟩

theorem witness_UnacceptedWordHasNoEffect :
    (PortIn.present 0x2000).rst = (PortIn.present 0x4000).rst ∧
    (PortIn.present 0x2000).rspReady = (PortIn.present 0x4000).rspReady ∧ cmdReady (PortIn.present 0x2000).rst waiting = false ∧
    cmdReady (PortIn.present 0x2000).rst idle = true ∧ (PortIn.present 0x2000).cmdValid = true := by
  decide

/-- A state whose registers are those after reset, but for the ones named, meets the invariant. -/
theorem inv_waiting : waiting.Inv := by
  refine ⟨fun _ => rfl, ?_, by decide, by decide, by decide, ⟨by decide, by decide⟩, ⟨by decide, by decide⟩,
    ⟨by decide, by decide⟩, ⟨by decide, by decide⟩⟩
  intro r h he
  cases h
  cases he


theorem witness_HeldResponseIsNeverLost :
    waiting.Inv ∧ waiting.rspq = resp 0x7C false ∧ waiting.nextIn.rst = false ∧ waiting.nextIn.rspReady = true := by
  exact ⟨inv_waiting, rfl, rfl, rfl⟩

theorem witness_HostRunIsTheCommandRun :
    Ready { idle with port := programEdges [0x2461, 0x3000] ++ [] } ∧
    ({ idle with port := programEdges [0x2461, 0x3000] ++ [] } : State).lat = Latency.unit ∧
    (programEdges [0x2461, 0x3000]).length = 3 := by
  exact ⟨⟨rfl, rfl, rfl⟩, rfl, by decide⟩

theorem witness_ResetEdgeResult :
    ({ hashed with port := [{ PortIn.idle with rst := true }] } : State).nextIn.rst = true ∧ faultedState.err ≠ 0 ∧
    (∃ t, step { faultedState with port := [{ PortIn.idle with rst := true }] } = .next t ∧ t.err = 0) := by
  exact ⟨rfl, by decide, _, rfl, rfl⟩

theorem witness_SettlingEdge :
    ({ PortIn.idle with rst := true } : PortIn).rst = true ∧ PortIn.idle.rst = false := by
  decide

theorem witness_StepKeepsTheInvariant :
    waiting.Inv ∧ ∃ t, step waiting = .next t := by
  exact ⟨inv_waiting, _, rfl⟩

theorem witness_UnobservableStateStaysUnobserved :
    State.Alike hashed { hashed with md2 := { hashed.md2 with c := Vector.replicate 16 1, fill := 3 } } ∧
    State.Alike (partway 0 3) { partway 0 3 with md5 := { (partway 0 3).md5 with b := (partway 0 3).md5.b.set 3 0 } } ∧
    (partway 0 3).md5.b ≠ (partway 0 3).md5.b.set 3 0 := by
  have self2 (a : Md2Ctx) : a.Alike a := ⟨rfl, fun _ => rfl, fun _ => ⟨rfl, rfl, fun _ _ => rfl⟩⟩
  have self {n : Nat} (a : MdCtx n) : a.Alike a := ⟨rfl, rfl, fun _ => ⟨rfl, rfl, fun _ _ => rfl⟩⟩
  refine ⟨⟨rfl, ⟨rfl, fun _ => rfl, by decide⟩, self _, self _, self _, self _, rfl, rfl, rfl, rfl, rfl, rfl, rfl⟩,
    ⟨rfl, self2 _, ⟨rfl, rfl, fun _ => ⟨rfl, rfl, ?_⟩⟩, self _, self _, self _, rfl, rfl, rfl, rfl, rfl, rfl, rfl⟩, by decide⟩
  decide

theorem witness_Djb2AbsorbFolds :
    idle.djb2.done = false := by
  decide

theorem witness_SixteenMebibytesDoNotOverrun :
    (List.replicate (2 ^ 24) (0x61 : Byte)).length = 2 ^ 24 := by
  exact List.length_replicate

theorem witness_RotationLaws :
    (0 : Nat) ≤ 32 ∧ (32 : Nat) ≤ 32 ∧ 0 < 31 ∧ 31 < 32 := by
  decide

end Sys2Proof.Tests
end

section
/-! PROOFS. A word placed by `withFetchWord` is the next step's: the host's next input presents that word, the core is
ready for it, and with every timing parameter at 1 its accepting edge is also its last one (70_reset_and_hazards.md R340). -/

namespace Sys2Proof.Machine

/-- With every timing parameter 1, any command takes one edge (70_reset_and_hazards.md R345). -/
theorem edgesOf_of_lat_unit {s : State} (h : s.lat = Latency.unit) (w : CmdWord) : edgesOf w s = 1 := by
  unfold edgesOf
  rw [h]
  cases decode w with
  | error _ => rfl
  | ok i => cases hop : i.op <;> simp [hop, Latency.unit]

/-- The edge after `withFetchWord` presents the word, all 16 bits of it. -/
@[simp] theorem State.withFetchWord_nextIn (s : State) (w : CmdWord) :
    (s.withFetchWord 16 w.toNat).nextIn = PortIn.present w := by
  have hword : BitVec.ofNat 16 (w.toNat % 2 ^ 16) = w := by
    rw [Nat.mod_eq_of_lt w.isLt, BitVec.ofNat_toNat, BitVec.setWidth_eq]
  exact congrArg PortIn.present hword

/-- Once the presented word is consumed, the host's own inputs stand again on the port. -/
@[simp] theorem State.withFetchWord_advance (s : State) (nbits w : Nat) :
    (s.withFetchWord nbits w).advance =
      { s with settling := false, running := none, rspq := none, lat := Latency.unit } := rfl

/-- A core that is ready and takes one edge for each command runs a presented word on that edge. -/
theorem edge_present_of_ready {s : State} (hready : Ready s) (hlat : s.lat = Latency.unit) (w : CmdWord) :
    edge (PortIn.present w) s = runWord w s := by
  obtain ⟨hsettling, hrunning, hrspq⟩ := hready
  calc edge (PortIn.present w) s
    _ = accept w s := edge_accept rfl hsettling hrunning hrspq rfl
    _ = runWord w s := accept_one (edgesOf_of_lat_unit hlat w).le

/-- Settles O26: the step is the edge that presents the word to the ready core. -/
theorem fetchWordRunsNext : Obligations.FetchWordRunsNext := by
  intro s w
  rw [step_eq, State.withFetchWord_nextIn, State.withFetchWord_advance]
  exact edge_present_of_ready ⟨rfl, rfl, rfl⟩ rfl w

end Sys2Proof.Machine
end

section
/-! PROOFS. The frame of a command (10_state.md R33): RDIG and RSTAT write the response alone, INIT, ABSORB and FINALIZE the
selected context alone, and a fault no context at all. From it: which command changes a `DONE` bit (R29), and that a
command that shows no digest byte shows only the `DONE` bits (R34). -/

namespace Sys2Proof.Machine

open Sys2Proof.Claims

/-- `t` is `s` but for the context of engine `e`. -/
def WritesContext (e : Engine) (s t : State) : Prop :=
  match e with
  | .djb2 => ∃ c, t = s.setDjb2 c
  | .md2 => ∃ c, t = s.setMd2 c
  | .md5 => ∃ c, t = s.setMd5 c
  | .sha1 => ∃ c, t = s.setSha1 c
  | .sha224 => ∃ c, t = s.setSha224 c
  | .sha256 => ∃ c, t = s.setSha256 c

namespace WritesContext

variable {e : Engine} {s t : State}

theorem sameShell (h : WritesContext e s t) : SameShell s t := by
  cases e <;> (obtain ⟨c, rfl⟩ := h; exact ⟨rfl, rfl, rfl, rfl⟩)

theorem sameFaults (h : WritesContext e s t) : SameFaults s t := by
  cases e <;> (obtain ⟨c, rfl⟩ := h; exact ⟨rfl, rfl⟩)

theorem rspq_eq (h : WritesContext e s t) : t.rspq = s.rspq := by
  cases e <;> (obtain ⟨c, rfl⟩ := h; rfl)

theorem sameContext (h : WritesContext e s t) {e' : Engine} (hne : e' ≠ e) : SameContext e' s t := by
  cases e <;> obtain ⟨c, rfl⟩ := h <;> cases e' <;> simp [SameContext] at hne ⊢

end WritesContext

/-- A state with the same context of an engine has the same `DONE` bit of it. -/
theorem SameContext.done_eq {e : Engine} {s t : State} (h : SameContext e s t) : t.done e = s.done e := by
  cases e <;> exact congrArg (·.done) h

theorem sameContexts_respond (s : State) (d : Byte) (err : Bool) : SameContexts s (s.respond d err) := by
  intro e; cases e <;> rfl

theorem sameContexts_takeFault (k : FaultKind) (w : CmdWord) (s : State) : SameContexts s (takeFault k w s) := by
  intro e; cases e <;> simp [SameContext]

theorem sameShell_takeFault (k : FaultKind) (w : CmdWord) (s : State) : SameShell s (takeFault k w s) := by
  simp [SameShell]

/-! The own effect of a command, by its operation -/

theorem effectOf_of_rdig {i : Instr} (h : i.op = .rdig) (s : State) :
    effectOf i s = s.respond ((s.digest i.engine).getD i.imm8.toNat 0) false := by
  cases i with
  | djb2Rdig k | md2Rdig k | md5Rdig k | sha1Rdig k | sha224Rdig k | sha256Rdig k => rfl
  | _ => cases h

theorem effectOf_of_rstat {i : Instr} (h : i.op = .rstat) (s : State) :
    effectOf i s = s.respond (status s i.engine) false := by
  cases i with
  | djb2Rstat | md2Rstat | md5Rstat | sha1Rstat | sha224Rstat | sha256Rstat => rfl
  | _ => cases h

theorem effectOf_of_write {i : Instr} (h : i.op = .init ∨ i.op = .absorb ∨ i.op = .finalize) (s : State) :
    WritesContext i.engine s (effectOf i s) := by
  cases i with
  | djb2Rdig k | md2Rdig k | md5Rdig k | sha1Rdig k | sha224Rdig k | sha256Rdig k => simp [Instr.op, Instr.parts] at h
  | djb2Rstat | md2Rstat | md5Rstat | sha1Rstat | sha224Rstat | sha256Rstat => simp [Instr.op, Instr.parts] at h
  | _ => exact ⟨_, rfl⟩

/-- The two shapes of a command's own effect: the response alone, or the selected context alone. -/
theorem effectOf_cases (i : Instr) (s : State) :
    ((i.op = .rdig ∨ i.op = .rstat) ∧ ∃ d, effectOf i s = s.respond d false) ∨
    ((i.op = .init ∨ i.op = .absorb ∨ i.op = .finalize) ∧ WritesContext i.engine s (effectOf i s)) := by
  cases hop : i.op with
  | rdig => exact .inl ⟨.inl rfl, _, effectOf_of_rdig hop s⟩
  | rstat => exact .inl ⟨.inr rfl, _, effectOf_of_rstat hop s⟩
  | init => exact .inr ⟨.inl rfl, effectOf_of_write (.inl hop) s⟩
  | absorb => exact .inr ⟨.inr (.inl rfl), effectOf_of_write (.inr (.inl hop)) s⟩
  | finalize => exact .inr ⟨.inr (.inr rfl), effectOf_of_write (.inr (.inr hop)) s⟩

theorem effectOf_sameShell (i : Instr) (s : State) : SameShell s (effectOf i s) := by
  obtain ⟨-, d, h⟩ | ⟨-, h⟩ := effectOf_cases i s
  · rw [h]; exact ⟨rfl, rfl, rfl, rfl⟩
  · exact h.sameShell

theorem effectOf_sameFaults (i : Instr) (s : State) : SameFaults s (effectOf i s) := by
  obtain ⟨-, d, h⟩ | ⟨-, h⟩ := effectOf_cases i s
  · rw [h]; exact ⟨rfl, rfl⟩
  · exact h.sameFaults

theorem effectOf_sameContext {i : Instr} (s : State) {e : Engine} (hne : e ≠ i.engine) :
    SameContext e s (effectOf i s) := by
  obtain ⟨-, d, h⟩ | ⟨-, h⟩ := effectOf_cases i s
  · rw [h]; exact sameContexts_respond s d false e
  · exact h.sameContext hne

theorem effectOf_sameContexts_of_read {i : Instr} (hop : i.op = .rdig ∨ i.op = .rstat) (s : State) :
    SameContexts s (effectOf i s) := by
  rcases hop with h | h
  · rw [effectOf_of_rdig h]; exact sameContexts_respond s _ false
  · rw [effectOf_of_rstat h]; exact sameContexts_respond s _ false

/-- What a command's own effect leaves in the `DONE` bit of its engine (10_state.md R29). -/
theorem effectOf_done_engine (i : Instr) (s : State) :
    (effectOf i s).done i.engine =
      match i.op with
      | .init => false
      | .finalize => true
      | .absorb | .rdig | .rstat => s.done i.engine := by
  cases i with
  | md2Absorb b => exact md2Absorb_done b s.md2
  | md5Absorb b => exact mdAbsorb_done _ b s.md5
  | sha1Absorb b => exact mdAbsorb_done _ b s.sha1
  | sha224Absorb b => exact mdAbsorb_done _ b s.sha224
  | sha256Absorb b => exact mdAbsorb_done _ b s.sha256
  | _ => rfl

/-- The check of ABSORB and FINALIZE finds no fault only before FINALIZE (60_exceptions.md R302). -/
theorem done_of_spentFault {done : Bool} (h : spentFault done = none) : done = false := by
  cases done with
  | false => rfl
  | true => cases h

theorem faultOf_of_unchecked {i : Instr} (h : i.op = .init ∨ i.op = .rstat ∨ i = .djb2Finalize) (s : State) :
    faultOf i s = none := by
  rcases h with h | h | rfl
  · simp [faultOf, h]
  · simp [faultOf, h]
  · rfl

/-- Settles O20, from the frames of a fault and of a command's own effect. -/
theorem frameOfEveryCommand : Obligations.FrameOfEveryCommand := by
  intro i s t ht
  obtain ⟨k, hk, rfl⟩ | ⟨-, rfl⟩ := exec_cases ht
  · refine ⟨sameShell_takeFault .., fun e _ => sameContexts_takeFault k _ s e, fun _ => sameContexts_takeFault k _ s,
      fun hop => ?_, fun hop => ?_, fun _ => (sameContexts_takeFault k _ s _).done_eq⟩
    · rw [takeFault_rspq, responds_encode]
      rcases hop with h | h | h <;> simp [h]
    · rw [faultOf_of_unchecked hop] at hk
      cases hk
  · refine ⟨effectOf_sameShell i s, fun e hne => effectOf_sameContext s hne, fun hop => effectOf_sameContexts_of_read hop s,
      fun hop => (effectOf_of_write hop s).rspq_eq, fun _ => effectOf_sameFaults i s, fun hop => ?_⟩
    rw [effectOf_done_engine, hop]

/-- Settles O21: a fault and another engine's command keep the bit, and `effectOf_done_engine` says which bit the engine's
own command leaves. -/
theorem doneChangesOnlyByInitAndFinalize : Obligations.DoneChangesOnlyByInitAndFinalize := by
  intro i s t e ht hchanged
  obtain ⟨k, -, rfl⟩ | ⟨-, rfl⟩ := exec_cases ht
  · exact absurd (sameContexts_takeFault k _ s e).done_eq hchanged
  · have he : i.engine = e := by
      by_contra hne
      exact hchanged (effectOf_sameContext s (Ne.symm hne)).done_eq
    subst he
    rw [effectOf_done_engine] at hchanged ⊢
    cases hop : i.op <;> simp [hop] at hchanged ⊢

/-! Two states with the same `DONE` bits and the same registers -/

section Opaque

variable {s s' : State} (hdone : ∀ e, s'.done e = s.done e)
include hdone

/-- The checks of a command read nothing of a context but its `DONE` bit (60_exceptions.md R302 to R304). -/
theorem faultOf_congr (i : Instr) : faultOf i s' = faultOf i s := by
  simp only [faultOf, hdone]

theorem takeFault_done_congr (k : FaultKind) (w : CmdWord) (e : Engine) :
    (takeFault k w s').done e = (takeFault k w s).done e := by
  rw [(sameContexts_takeFault k w s' e).done_eq, (sameContexts_takeFault k w s e).done_eq, hdone]

theorem effectOf_done_congr (i : Instr) (e : Engine) : (effectOf i s').done e = (effectOf i s).done e := by
  by_cases he : e = i.engine
  · subst he
    rw [effectOf_done_engine, effectOf_done_engine, hdone]
  · rw [(effectOf_sameContext s' he).done_eq, (effectOf_sameContext s he).done_eq, hdone]

/-- The status byte shows of a context its `DONE` bit alone (47_status.md R295). -/
theorem effectOf_rspq_congr {i : Instr} (hop : i.op ≠ .rdig) (herr : s'.err = s.err) (hrspq : s'.rspq = s.rspq) :
    (effectOf i s').rspq = (effectOf i s).rspq := by
  have written (hw : i.op = .init ∨ i.op = .absorb ∨ i.op = .finalize) : (effectOf i s').rspq = (effectOf i s).rspq := by
    rw [(effectOf_of_write hw s').rspq_eq, (effectOf_of_write hw s).rspq_eq, hrspq]
  cases h : i.op with
  | init => exact written (.inl h)
  | absorb => exact written (.inr (.inl h))
  | finalize => exact written (.inr (.inr h))
  | rdig => exact absurd h hop
  | rstat => simp [effectOf_of_rstat h, status, herr, hdone]

end Opaque

/-- An RDIG whose checks find no fault reads a byte of a finished digest (60_exceptions.md R303, R304). -/
theorem rdig_completes {i : Instr} {s : State} (hop : i.op = .rdig) (hf : faultOf i s = none) :
    s.done i.engine = true ∧ i.imm8.toNat < digestLength i.engine := by
  have hlen : Config.digestBytes i.engine = digestLength i.engine := by cases i.engine <;> rfl
  simp only [faultOf, hop, rdigFault, operandIndex, hlen] at hf
  split_ifs at hf with hd hn
  exact ⟨by simpa using hd, by omega⟩

/-- Settles O23: the two states find the same fault, or the command is none that reads a digest byte. -/
theorem contextsAreOpaque : Obligations.ContextsAreOpaque := by
  intro i s s' hdone ⟨herr, hcmd⟩ hrspq hread
  cases hf : faultOf i s with
  | some k =>
    refine ⟨_, _, exec_fault hf, exec_fault ((faultOf_congr hdone i).trans hf), ?_, ⟨?_, ?_⟩, takeFault_done_congr hdone k _⟩
    · simp [hrspq]
    · simp [herr]
    · simp [herr, hcmd]
  | none =>
    have hop : i.op ≠ .rdig := fun h => by
      obtain ⟨hd, hlt⟩ := rdig_completes h hf
      exact absurd (hread h hd) (by omega)
    have hs := effectOf_sameFaults i s
    have hs' := effectOf_sameFaults i s'
    exact ⟨_, _, exec_effect hf, exec_effect ((faultOf_congr hdone i).trans hf), effectOf_rspq_congr hdone hop herr hrspq,
      ⟨by rw [hs.1, hs'.1, herr], by rw [hs.2, hs'.2, hcmd]⟩, effectOf_done_congr hdone i⟩

end Sys2Proof.Machine
end

section
/-! PROOFS. `ERR` and `ERRCMD` along a step: a command takes a fault or keeps them, and without reset so does every edge
(10_state.md R30, R31); a reset edge puts every register at its value of the reset table (R44). -/

namespace Sys2Proof.Machine

/-- The two ways a word runs: a fault taken, or the effect of a command whose checks find none. -/
theorem runWord_cases {w : CmdWord} {s t : State} (h : runWord w s = .next t) :
    (∃ k v, t = takeFault k v s) ∨ ∃ i, faultOf i s = none ∧ t = effectOf i s := by
  cases hw : decode w with
  | error r =>
    rw [runWord_of_error hw, Host.Outcome.next.injEq] at h
    exact .inl ⟨.illegal, w, h.symm⟩
  | ok i =>
    rw [runWord_of_decode hw] at h
    obtain ⟨k, -, ht⟩ | ⟨hf, ht⟩ := exec_cases h
    · exact .inl ⟨k, encode i, ht⟩
    · exact .inr ⟨i, hf, ht⟩

/-- From `s` to `t` no bit of `ERR` is cleared, and `ERRCMD` is kept if a fault stood already (60_exceptions.md R312). -/
def KeepsFaults (s t : State) : Prop :=
  (∀ j, s.err.getLsbD j = true → t.err.getLsbD j = true) ∧ (s.err ≠ 0 → t.errCmd = s.errCmd)

theorem SameFaults.keepsFaults {s t : State} (h : SameFaults s t) : KeepsFaults s t :=
  ⟨fun j hj => by rw [h.1, hj], fun _ => h.2⟩

theorem takeFault_keepsFaults (k : FaultKind) (w : CmdWord) (s : State) : KeepsFaults s (takeFault k w s) := by
  refine ⟨fun j hj => ?_, fun hne => ?_⟩
  · rw [takeFault_err, setErrBit_getLsbD k s.err j (BitVec.lt_of_getLsbD hj), hj, Bool.true_or]
  · rw [takeFault_errCmd, if_neg hne]

theorem runWord_keepsFaults {w : CmdWord} {s t : State} (h : runWord w s = .next t) : KeepsFaults s t := by
  obtain ⟨k, v, rfl⟩ | ⟨i, -, rfl⟩ := runWord_cases h
  · exact takeFault_keepsFaults k v s
  · exact (effectOf_sameFaults i s).keepsFaults

/-- A non-zero `ERR` that is kept stays non-zero. -/
theorem KeepsFaults.err_ne_zero {s t : State} (h : KeepsFaults s t) (hne : s.err ≠ 0) : t.err ≠ 0 := by
  intro hzero
  refine hne (BitVec.eq_of_getLsbD_eq fun j _ => ?_)
  simpa [hzero] using h.1 j

/-- Of the cases of an edge without reset only the two that run a word touch the fault registers. -/
theorem edge_keepsFaults {p : PortIn} {s t : State} (hrst : p.rst = false) (h : edge p s = .next t) : KeepsFaults s t := by
  have same : KeepsFaults s s := SameFaults.keepsFaults ⟨rfl, rfl⟩
  obtain ⟨hr, -⟩ | ⟨-, -, rfl⟩ | ⟨-, -, r, -, -, hw⟩ | ⟨-, -, r, -, -, rfl⟩ | ⟨-, -, -, -, rfl⟩ | ⟨-, -, -, -, -, rfl⟩ |
    ⟨-, -, -, -, -, -, hw⟩ | ⟨-, -, -, -, -, -, rfl⟩ := edge_cases h
  · simp [hrst] at hr
  · exact same
  · exact runWord_keepsFaults (s := s.setRunning none) hw
  · exact same
  · split <;> exact same
  · exact same
  · exact runWord_keepsFaults hw
  · exact same

/-- Settles O19: the step is an edge without reset. -/
theorem faultRegistersAreSticky : Obligations.FaultRegistersAreSticky :=
  fun s _ hrst h => edge_keepsFaults (s := s.advance) hrst h

/-- Settles O31: the reset edge answers the reset table, and a step that is none keeps `ERR` and `ERRCMD`. -/
theorem resetEdgeResult : Obligations.ResetEdgeResult := by
  refine ⟨fun s hrst => ?_, fun s t h hne hlost => ?_⟩
  · exact ⟨s.advance.resetEdge, edge_reset hrst, rfl, rfl, rfl, rfl, rfl, rfl, rfl, rfl, rfl, rfl⟩
  · by_contra hrst
    have hkept : KeepsFaults s.advance t := edge_keepsFaults (Bool.eq_false_iff.mpr hrst) h
    rcases hlost with hzero | hcmd
    · exact hkept.err_ne_zero hne hzero
    · exact hcmd (hkept.2 hne)

end Sys2Proof.Machine
end

section
/-! PROOFS. The invariant of the core holds at reset and is kept by every step: the two updates a command can end with
(one context written, or a response given), a fault taken, and the hand-shake's own moves each keep it. -/

namespace Sys2Proof.Machine

/-! The contexts -/

/-- An MD2 ABSORB before FINALIZE leaves the context not finalized, whatever it buffers. -/
theorem md2Absorb_fill_of_done (d : Byte) {c : Md2Ctx} (hd : c.done = false) :
    (md2Absorb d c).done = true → (md2Absorb d c).fill = 0 := by
  simp [hd]

theorem initMd_inv {n : Nat} (iv : Vector Word n) : (initMd iv).Inv :=
  ⟨fun _ => rfl, fun _ => rfl⟩

/-- ABSORB adds one block's bits to `LEN`, or nothing (43_md_shape.md R191). -/
theorem mdAbsorb_inv {n : Nat} (compress : Vector Word n → Block → Vector Word n) (d : Byte) {c : MdCtx n}
    (hc : c.Inv) (hd : c.done = false) : (mdAbsorb compress d c).Inv := by
  have hlen : c.len.toNat % 512 = 0 := hc.1 hd
  refine ⟨fun _ => ?_, fun h => by simp [hd] at h⟩
  by_cases hfull : c.fill.val + 1 = 64
  · rw [mdAbsorb_of_full compress d c hfull, BitVec.toNat_add]
    have hblock : (512 : BitCount).toNat = 512 := rfl
    omega
  · rw [mdAbsorb_of_room compress d c hfull]
    exact hlen

theorem mdFinalize_inv {n : Nat} (compress : Vector Word n → Block → Vector Word n)
    (putLen : Block → BitCount → Block) (c : MdCtx n) : (mdFinalize compress putLen c).Inv :=
  ⟨nofun, fun _ => rfl⟩

namespace State.Inv

variable {s : State}

/-! Updates of a ready core -/

/-- A core with no settling edge to come says nothing about that edge. -/
theorem settling_vacuous (h : s.settling = false) :
    s.settling = true → s = { State.reset with lat := s.lat, port := s.port } := by
  simp [h]

theorem setDjb2 (h : s.Inv) (hr : Ready s) (c : Djb2Ctx) : (s.setDjb2 c).Inv :=
  { h with settling_reset := settling_vacuous hr.1 }

theorem setMd2 (h : s.Inv) (hr : Ready s) {c : Md2Ctx} (hc : c.done = true → c.fill = 0) : (s.setMd2 c).Inv :=
  { h with settling_reset := settling_vacuous hr.1, md2_done := hc }

theorem setMd5 (h : s.Inv) (hr : Ready s) {c : MdCtx 4} (hc : c.Inv) : (s.setMd5 c).Inv :=
  { h with settling_reset := settling_vacuous hr.1, md5_inv := hc }

theorem setSha1 (h : s.Inv) (hr : Ready s) {c : MdCtx 5} (hc : c.Inv) : (s.setSha1 c).Inv :=
  { h with settling_reset := settling_vacuous hr.1, sha1_inv := hc }

theorem setSha224 (h : s.Inv) (hr : Ready s) {c : MdCtx 8} (hc : c.Inv) : (s.setSha224 c).Inv :=
  { h with settling_reset := settling_vacuous hr.1, sha224_inv := hc }

theorem setSha256 (h : s.Inv) (hr : Ready s) {c : MdCtx 8} (hc : c.Inv) : (s.setSha256 c).Inv :=
  { h with settling_reset := settling_vacuous hr.1, sha256_inv := hc }

/-- A command's own response is no error response. -/
theorem respond (h : s.Inv) (hr : Ready s) (d : Byte) : (s.respond d false).Inv :=
  { h with
    settling_reset := settling_vacuous hr.1
    running_alone := fun r hrun => by simp [hr.2.1] at hrun
    error_response := fun r hq he => by
      rw [State.respond_rspq, Option.some.injEq] at hq
      subst hq
      cases he }

/-- A fault writes `ERR`, so that neither register clause is about the state before it (60_exceptions.md R300). -/
theorem takeFault (h : s.Inv) (hr : Ready s) (k : FaultKind) (w : CmdWord) : (takeFault k w s).Inv := by
  obtain ⟨hs, hrun, hq⟩ := hr
  have herr : (Machine.takeFault k w s).err ≠ 0 := by simpa using setErrBit_ne_zero k s.err
  exact {
    errCmd_of_err := fun he => absurd he herr
    error_response := fun r hresp _ => by
      rw [takeFault_rspq, hq] at hresp
      split at hresp
      · cases hresp
        exact ⟨rfl, herr⟩
      · cases hresp
    running_alone := by simp [hrun]
    settling_reset := by simp [hs]
    md2_done := by simpa using h.md2_done
    md5_inv := by simpa using h.md5_inv
    sha1_inv := by simpa using h.sha1_inv
    sha224_inv := by simpa using h.sha224_inv
    sha256_inv := by simpa using h.sha256_inv }

/-! The commands -/

/-- The own effect of a command keeps the invariant: INIT starts an empty context, ABSORB runs before FINALIZE only, FINALIZE
leaves nothing buffered, RDIG and RSTAT write the response alone. -/
theorem effectOf {i : Instr} (h : s.Inv) (hr : Ready s) (hf : faultOf i s = none) : (effectOf i s).Inv := by
  cases i with
  | djb2Init | djb2Absorb b | djb2Finalize => exact h.setDjb2 hr _
  | md2Init => exact h.setMd2 hr nofun
  | md2Absorb b => exact h.setMd2 hr (md2Absorb_fill_of_done b (done_of_spentFault hf))
  | md2Finalize => exact h.setMd2 hr fun _ => rfl
  | md5Init => exact h.setMd5 hr (initMd_inv _)
  | md5Absorb b => exact h.setMd5 hr (mdAbsorb_inv _ b h.md5_inv (done_of_spentFault hf))
  | md5Finalize => exact h.setMd5 hr (mdFinalize_inv _ _ _)
  | sha1Init => exact h.setSha1 hr (initMd_inv _)
  | sha1Absorb b => exact h.setSha1 hr (mdAbsorb_inv _ b h.sha1_inv (done_of_spentFault hf))
  | sha1Finalize => exact h.setSha1 hr (mdFinalize_inv _ _ _)
  | sha224Init => exact h.setSha224 hr (initMd_inv _)
  | sha224Absorb b => exact h.setSha224 hr (mdAbsorb_inv _ b h.sha224_inv (done_of_spentFault hf))
  | sha224Finalize => exact h.setSha224 hr (mdFinalize_inv _ _ _)
  | sha256Init => exact h.setSha256 hr (initMd_inv _)
  | sha256Absorb b => exact h.setSha256 hr (mdAbsorb_inv _ b h.sha256_inv (done_of_spentFault hf))
  | sha256Finalize => exact h.setSha256 hr (mdFinalize_inv _ _ _)
  | djb2Rdig k | md2Rdig k | md5Rdig k | sha1Rdig k | sha224Rdig k | sha256Rdig k => exact h.respond hr _
  | djb2Rstat | md2Rstat | md5Rstat | sha1Rstat | sha224Rstat | sha256Rstat => exact h.respond hr _

theorem runWord {w : CmdWord} {t : State} (h : s.Inv) (hr : Ready s) (ht : runWord w s = .next t) : t.Inv := by
  obtain ⟨k, v, rfl⟩ | ⟨i, hf, rfl⟩ := runWord_cases ht
  · exact h.takeFault hr k v
  · exact h.effectOf hr hf

/-! The hand-shake -/

theorem ofReset (lat : Latency) (port : List PortIn) : ({ State.reset with lat := lat, port := port } : State).Inv :=
  { errCmd_of_err := fun _ => rfl
    error_response := nofun
    running_alone := nofun
    settling_reset := fun _ => rfl
    md2_done := nofun
    md5_inv := initMd_inv _
    sha1_inv := initMd_inv _
    sha224_inv := initMd_inv _
    sha256_inv := initMd_inv _ }

theorem setPort (h : s.Inv) (p : List PortIn) : (s.setPort p).Inv :=
  { h with settling_reset := fun hs => congrArg (·.setPort p) (h.settling_reset hs) }

theorem settled (h : s.Inv) : s.settled.Inv :=
  { h with settling_reset := nofun }

theorem takeResponse (h : s.Inv) (hs : s.settling = false) : s.takeResponse.Inv :=
  { h with
    settling_reset := settling_vacuous hs
    error_response := nofun
    running_alone := fun r hrun => ⟨(h.running_alone r hrun).1, rfl⟩ }

/-- A command may stand in execution with edges left and no response beside it. -/
theorem setRunning (h : s.Inv) (hs : s.settling = false) {r : Option Running}
    (hrun : ∀ q, r = some q → 1 ≤ q.left ∧ s.rspq = none) : (s.setRunning r).Inv :=
  { h with settling_reset := settling_vacuous hs, running_alone := hrun }

theorem edge {p : PortIn} {t : State} (h : s.Inv) (ht : edge p s = .next t) : t.Inv := by
  obtain ⟨-, rfl⟩ | ⟨-, -, rfl⟩ | ⟨-, hs, r, hrun, -, hw⟩ | ⟨-, hs, r, hrun, hl, rfl⟩ | ⟨-, hs, -, -, rfl⟩ |
    ⟨-, -, -, -, -, rfl⟩ | ⟨-, hs, hn, hq, -, -, hw⟩ | ⟨-, hs, hn, hq, -, hl, rfl⟩ := edge_cases ht
  · exact ofReset s.lat s.port
  · exact h.settled
  · exact (h.setRunning (r := none) hs nofun).runWord ⟨hs, rfl, (h.running_alone r hrun).2⟩ hw
  · refine h.setRunning hs fun q hq => ?_
    cases hq
    exact ⟨by dsimp only; omega, (h.running_alone r hrun).2⟩
  · split
    · exact h.takeResponse hs
    · exact h
  · exact h
  · exact h.runWord ⟨hs, hn, hq⟩ hw
  · refine h.setRunning hs fun q hq' => ?_
    cases hq'
    exact ⟨by dsimp only; omega, hq⟩

end State.Inv

/-- Settles O33: the reset state is the state of a reset edge with its own parameters and inputs. -/
theorem invariantAtReset : Obligations.InvariantAtReset :=
  State.Inv.ofReset State.reset.lat State.reset.port

/-- Settles O34: consuming the host's input keeps the invariant, and so does each case of the edge on it. -/
theorem stepKeepsTheInvariant : Obligations.StepKeepsTheInvariant :=
  fun s _ h ht => (h.setPort s.port.tail).edge ht

end Sys2Proof.Machine
end

section
/-! PROOFS. What the spec calls unobservable stays so (10_state.md R36): two alike states find the same faults and the same
number of edges, read the same digests, and are led by the same command, and the same edge, to alike states. -/

namespace Sys2Proof.Machine

/-! The contexts -/

section Buffer

variable {n : Nat} {a b : Vector Byte n} {f g : Fin n}

/-- Buffers that agree below `FILL` agree, after one more byte, up to and with that byte. -/
theorem set_agrees (hfill : f = g) (h : ∀ j : Fin n, j < f → a[j] = b[j]) (d : Byte) (j : Fin n)
    (hj : j.val < f.val + 1) : (a.set f d)[j] = (b.set g d)[j] := by
  subst hfill
  by_cases he : f.val = j.val
  · simp [he]
  · simpa [Vector.getElem_set, he] using h j (by omega)

/-- The byte that fills the block makes the buffers equal. -/
theorem set_eq_of_full (hfill : f = g) (h : ∀ j : Fin n, j < f → a[j] = b[j]) (d : Byte) (hfull : f.val + 1 = n) :
    a.set f d = b.set g d :=
  Vector.ext fun j hj => set_agrees hfill h d ⟨j, hj⟩ (by simp only; omega)

end Buffer

section Md2

variable {a b : Md2Ctx}

theorem Md2Ctx.Alike.refl (a : Md2Ctx) : a.Alike a :=
  ⟨rfl, fun _ => rfl, fun _ => ⟨rfl, rfl, fun _ _ => rfl⟩⟩

theorem Md2Ctx.Alike.done_eq (h : a.Alike b) : a.done = b.done := h.1

theorem Md2Ctx.Alike.fill_eq (h : a.Alike b) (hd : a.done = false) : a.fill = b.fill := (h.2.2 hd).2.1

/-- The digest is the part of `X` that counts (42_md2.md R165). -/
theorem Md2Ctx.Alike.digest_eq (h : a.Alike b) : digestMd2 a.x = digestMd2 b.x := by
  refine List.ext_getElem (by simp) fun k hk _ => ?_
  have hk : k < 16 := by simpa using hk
  simpa [digestMd2] using h.2.1 ⟨k, hk⟩

theorem md2Transform_congr {x y : Md2Work} (h : ∀ k : Fin 16, x[k.val] = y[k.val]) (c m : Md2Block) :
    md2Transform x c m = md2Transform y c m := by
  simp only [md2Transform, md2Load_congr x y m h]

theorem md2Pad_congr {fill : Fin 16} {a b : Md2Block} (h : ∀ j : Fin 16, j < fill → a[j] = b[j]) :
    md2Pad fill a = md2Pad fill b := by
  refine Vector.ext fun j hj => ?_
  rw [md2Pad_getElem, md2Pad_getElem]
  split_ifs with hle
  · rfl
  · exact h ⟨j, hj⟩ (Nat.not_le.mp hle)

theorem Md2Ctx.Alike.absorb (h : a.Alike b) (hd : a.done = false) (d : Byte) : (md2Absorb d a).Alike (md2Absorb d b) := by
  obtain ⟨hdone, hx, hopen⟩ := h
  obtain ⟨hc, hfill, hb⟩ := hopen hd
  by_cases hfull : a.fill.val + 1 = 16
  · rw [md2Absorb_of_full d a hfull, md2Absorb_of_full d b (hfill ▸ hfull), md2Transform_congr hx, hc,
      set_eq_of_full hfill hb d hfull, hdone]
    exact .refl _
  · rw [md2Absorb_of_room d a hfull, md2Absorb_of_room d b (hfill ▸ hfull)]
    refine ⟨hdone, hx, fun _ => ⟨hc, Fin.ext (congrArg (·.val + 1) hfill), fun j hj => set_agrees hfill hb d j hj⟩⟩

theorem Md2Ctx.Alike.finalize (h : a.Alike b) (hd : a.done = false) : (md2Finalize a).Alike (md2Finalize b) := by
  obtain ⟨-, hx, hopen⟩ := h
  obtain ⟨hc, hfill, hb⟩ := hopen hd
  have heq : md2Finalize a = md2Finalize b := by
    simp only [md2Finalize, md2Transform_congr hx, hc, md2Pad_congr hb, ← hfill]
  rw [heq]
  exact .refl _

end Md2

section Md

variable {n : Nat} {a b : MdCtx n} (compress : Vector Word n → Block → Vector Word n)

theorem MdCtx.Alike.refl (a : MdCtx n) : a.Alike a :=
  ⟨rfl, rfl, fun _ => ⟨rfl, rfl, fun _ _ => rfl⟩⟩

theorem MdCtx.Alike.done_eq (h : a.Alike b) : a.done = b.done := h.1

theorem MdCtx.Alike.h_eq (h : a.Alike b) : a.h = b.h := h.2.1

theorem MdCtx.Alike.fill_eq (h : a.Alike b) (hd : a.done = false) : a.fill = b.fill := (h.2.2 hd).2.1

theorem MdCtx.Alike.fillsBlock_eq (h : a.Alike b) (hd : a.done = false) : fillsBlock a = fillsBlock b := by
  rw [fillsBlock, fillsBlock, h.fill_eq hd]

theorem MdCtx.Alike.needsExtraBlock_eq (h : a.Alike b) (hd : a.done = false) :
    needsExtraBlock a = needsExtraBlock b := by
  rw [needsExtraBlock, needsExtraBlock, h.fill_eq hd]

theorem mdPad_congr {fill : Fin 64} {a b : Block} (h : ∀ j : Fin 64, j < fill → a[j] = b[j]) :
    mdPad fill a = mdPad fill b := by
  refine Vector.ext fun j hj => ?_
  rw [mdPad_getElem, mdPad_getElem]
  split_ifs with hlt
  · exact h ⟨j, hj⟩ hlt
  · rfl
  · rfl

theorem MdCtx.Alike.absorb (h : a.Alike b) (hd : a.done = false) (d : Byte) :
    (mdAbsorb compress d a).Alike (mdAbsorb compress d b) := by
  obtain ⟨hdone, hh, hopen⟩ := h
  obtain ⟨hlen, hfill, hb⟩ := hopen hd
  by_cases hfull : a.fill.val + 1 = 64
  · rw [mdAbsorb_of_full compress d a hfull, mdAbsorb_of_full compress d b (hfill ▸ hfull), hh, hlen,
      set_eq_of_full hfill hb d hfull, hdone]
    exact .refl _
  · rw [mdAbsorb_of_room compress d a hfull, mdAbsorb_of_room compress d b (hfill ▸ hfull)]
    refine ⟨hdone, hh, fun _ => ⟨hlen, Fin.ext (congrArg (·.val + 1) hfill), fun j hj => set_agrees hfill hb d j hj⟩⟩

theorem MdCtx.Alike.finalize (putLen : Block → BitCount → Block) (h : a.Alike b) (hd : a.done = false) :
    (mdFinalize compress putLen a).Alike (mdFinalize compress putLen b) := by
  obtain ⟨-, hh, hopen⟩ := h
  obtain ⟨hlen, hfill, hb⟩ := hopen hd
  have heq : mdFinalize compress putLen a = mdFinalize compress putLen b := by
    simp only [mdFinalize, totalBits, needsExtraBlock, hh, hlen, ← hfill, mdPad_congr hb]
  rw [heq]
  exact .refl _

end Md

/-! Updates of two alike states -/

namespace State.Alike

variable {s t : State}

theorem setDjb2 (h : s.Alike t) {c c' : Djb2Ctx} (hc : c = c') : (s.setDjb2 c).Alike (t.setDjb2 c') :=
  { h with djb2 := hc }

theorem setMd2 (h : s.Alike t) {c c' : Md2Ctx} (hc : c.Alike c') : (s.setMd2 c).Alike (t.setMd2 c') :=
  { h with md2 := hc }

theorem setMd5 (h : s.Alike t) {c c' : MdCtx 4} (hc : c.Alike c') : (s.setMd5 c).Alike (t.setMd5 c') :=
  { h with md5 := hc }

theorem setSha1 (h : s.Alike t) {c c' : MdCtx 5} (hc : c.Alike c') : (s.setSha1 c).Alike (t.setSha1 c') :=
  { h with sha1 := hc }

theorem setSha224 (h : s.Alike t) {c c' : MdCtx 8} (hc : c.Alike c') : (s.setSha224 c).Alike (t.setSha224 c') :=
  { h with sha224 := hc }

theorem setSha256 (h : s.Alike t) {c c' : MdCtx 8} (hc : c.Alike c') : (s.setSha256 c).Alike (t.setSha256 c') :=
  { h with sha256 := hc }

theorem respond (h : s.Alike t) {d d' : Byte} (hd : d = d') (err : Bool) : (s.respond d err).Alike (t.respond d' err) :=
  { h with rspq := by rw [respond_rspq, respond_rspq, hd] }

theorem takeResponse (h : s.Alike t) : s.takeResponse.Alike t.takeResponse :=
  { h with rspq := rfl }

theorem setRunning (h : s.Alike t) (r : Option Running) : (s.setRunning r).Alike (t.setRunning r) :=
  { h with running := rfl }

theorem settled (h : s.Alike t) : s.settled.Alike t.settled :=
  { h with settling := rfl }

theorem advance (h : s.Alike t) : s.advance.Alike t.advance :=
  { h with port := congrArg List.tail h.port }

theorem resetEdge (h : s.Alike t) : s.resetEdge.Alike t.resetEdge :=
  { h with
    djb2 := rfl, md2 := .refl _, md5 := .refl _, sha1 := .refl _, sha224 := .refl _, sha256 := .refl _
    err := rfl, errCmd := rfl, rspq := rfl, running := rfl, settling := rfl }

theorem recordFault (h : s.Alike t) (k : FaultKind) (w : CmdWord) : (s.recordFault k w).Alike (t.recordFault k w) :=
  { h with
    err := by simp only [recordFault_err, h.err]
    errCmd := by simp only [recordFault_errCmd, h.err, h.errCmd] }

theorem takeFault (h : s.Alike t) (k : FaultKind) (w : CmdWord) : (takeFault k w s).Alike (takeFault k w t) := by
  unfold Machine.takeFault
  split
  · exact (h.recordFault k w).respond rfl true
  · exact h.recordFault k w

/-! What the commands read of two alike states -/

theorem done_eq (h : s.Alike t) (e : Engine) : t.done e = s.done e := by
  cases e with
  | djb2 => simp only [State.done, h.djb2]
  | md2 => exact h.md2.done_eq.symm
  | md5 => exact h.md5.done_eq.symm
  | sha1 => exact h.sha1.done_eq.symm
  | sha224 => exact h.sha224.done_eq.symm
  | sha256 => exact h.sha256.done_eq.symm

theorem faultOf_eq (h : s.Alike t) (i : Instr) : faultOf i t = faultOf i s :=
  faultOf_congr h.done_eq i

theorem status_eq (h : s.Alike t) (e : Engine) : status s e = status t e := by
  simp only [status, h.err, h.done_eq]

theorem digest_eq (h : s.Alike t) (e : Engine) : s.digest e = t.digest e := by
  cases e with
  | djb2 => simp only [State.digest, h.djb2]
  | md2 => exact h.md2.digest_eq
  | md5 => simp only [State.digest, h.md5.h_eq]
  | sha1 => simp only [State.digest, h.sha1.h_eq]
  | sha224 => simp only [State.digest, h.sha224.h_eq]
  | sha256 => simp only [State.digest, h.sha256.h_eq]

/-- Whether an ABSORB fills the block is read of `FILL` before FINALIZE only. -/
theorem absorbFills_eq (h : s.Alike t) {e : Engine} (hd : e ≠ .djb2 → s.done e = false) :
    s.absorbFills e = t.absorbFills e := by
  cases e with
  | djb2 => rfl
  | md2 => simp only [State.absorbFills, h.md2.fill_eq (hd nofun)]
  | md5 => exact h.md5.fillsBlock_eq (hd nofun)
  | sha1 => exact h.sha1.fillsBlock_eq (hd nofun)
  | sha224 => exact h.sha224.fillsBlock_eq (hd nofun)
  | sha256 => exact h.sha256.fillsBlock_eq (hd nofun)

/-- The number of compressions of a FINALIZE is read of `FILL` before FINALIZE only. -/
theorem finalizeRuns_eq (h : s.Alike t) {e : Engine} (hd : e ≠ .djb2 → s.done e = false) :
    s.finalizeRuns e = t.finalizeRuns e := by
  cases e with
  | djb2 => rfl
  | md2 => rfl
  | md5 => simp only [State.finalizeRuns, h.md5.needsExtraBlock_eq (hd nofun)]
  | sha1 => simp only [State.finalizeRuns, h.sha1.needsExtraBlock_eq (hd nofun)]
  | sha224 => simp only [State.finalizeRuns, h.sha224.needsExtraBlock_eq (hd nofun)]
  | sha256 => simp only [State.finalizeRuns, h.sha256.needsExtraBlock_eq (hd nofun)]

/-- An ABSORB or FINALIZE whose checks find no fault reads `FILL` of no finalized context, so that both states take the
same number of edges (70_reset_and_hazards.md R345). -/
theorem edgesOf_eq (h : s.Alike t) (w : CmdWord) : edgesOf w s = edgesOf w t := by
  unfold edgesOf
  rw [h.lat]
  cases decode w with
  | error r => rfl
  | ok i =>
    simp only [h.faultOf_eq i]
    cases hf : faultOf i s with
    | some k => rfl
    | none =>
      cases hop : i.op with
      | init | rdig | rstat => rfl
      | absorb =>
        have hd : s.done i.engine = false := done_of_spentFault (by simpa [faultOf, hop] using hf)
        simp only [h.absorbFills_eq fun _ => hd]
      | finalize =>
        have hd (he : i.engine ≠ .djb2) : s.done i.engine = false :=
          done_of_spentFault (by simpa [faultOf, hop, he] using hf)
        simp only [h.finalizeRuns_eq hd]

/-! The commands -/

theorem effectOf (h : s.Alike t) {i : Instr} (hf : faultOf i s = none) : (effectOf i s).Alike (effectOf i t) := by
  cases i with
  | djb2Init => exact h.setDjb2 rfl
  | djb2Absorb b => exact h.setDjb2 (by rw [h.djb2])
  | djb2Finalize => exact h.setDjb2 (by rw [h.djb2])
  | md2Init => exact h.setMd2 (.refl _)
  | md2Absorb b => exact h.setMd2 (h.md2.absorb (done_of_spentFault hf) b)
  | md2Finalize => exact h.setMd2 (h.md2.finalize (done_of_spentFault hf))
  | md5Init => exact h.setMd5 (.refl _)
  | md5Absorb b => exact h.setMd5 (h.md5.absorb _ (done_of_spentFault hf) b)
  | md5Finalize => exact h.setMd5 (h.md5.finalize _ _ (done_of_spentFault hf))
  | sha1Init => exact h.setSha1 (.refl _)
  | sha1Absorb b => exact h.setSha1 (h.sha1.absorb _ (done_of_spentFault hf) b)
  | sha1Finalize => exact h.setSha1 (h.sha1.finalize _ _ (done_of_spentFault hf))
  | sha224Init => exact h.setSha224 (.refl _)
  | sha224Absorb b => exact h.setSha224 (h.sha224.absorb _ (done_of_spentFault hf) b)
  | sha224Finalize => exact h.setSha224 (h.sha224.finalize _ _ (done_of_spentFault hf))
  | sha256Init => exact h.setSha256 (.refl _)
  | sha256Absorb b => exact h.setSha256 (h.sha256.absorb _ (done_of_spentFault hf) b)
  | sha256Finalize => exact h.setSha256 (h.sha256.finalize _ _ (done_of_spentFault hf))
  | djb2Rdig k | md2Rdig k | md5Rdig k | sha1Rdig k | sha224Rdig k | sha256Rdig k =>
    exact h.respond (by rw [h.digest_eq]) false
  | djb2Rstat | md2Rstat | md5Rstat | sha1Rstat | sha224Rstat | sha256Rstat => exact h.respond (h.status_eq _) false

end State.Alike

/-- Both outcomes are next states, and alike. -/
def AlikeNext (o o' : Host.Outcome State Fault Refusal) : Prop :=
  ∃ s t, o = .next s ∧ o' = .next t ∧ s.Alike t

theorem State.Alike.next {s t : State} (h : s.Alike t) : AlikeNext (.next s) (.next t) :=
  ⟨s, t, rfl, rfl, h⟩

namespace State.Alike

variable {s t : State}

theorem exec (h : s.Alike t) (i : Instr) : AlikeNext (exec i s) (exec i t) := by
  cases hf : faultOf i s with
  | some k =>
    rw [exec_fault hf, exec_fault ((h.faultOf_eq i).trans hf)]
    exact (h.takeFault k _).next
  | none =>
    rw [exec_effect hf, exec_effect ((h.faultOf_eq i).trans hf)]
    exact (h.effectOf hf).next

theorem runWord (h : s.Alike t) (w : CmdWord) : AlikeNext (runWord w s) (runWord w t) := by
  cases hw : decode w with
  | error r =>
    rw [runWord_of_error hw, runWord_of_error hw]
    exact (h.takeFault .illegal w).next
  | ok i =>
    rw [runWord_of_decode hw, runWord_of_decode hw]
    exact h.exec i

theorem accept (h : s.Alike t) (w : CmdWord) : AlikeNext (accept w s) (accept w t) := by
  unfold Machine.accept
  rw [h.edgesOf_eq w]
  split
  · exact h.runWord w
  · exact (h.setRunning _).next

theorem continueRunning (h : s.Alike t) (r : Running) : AlikeNext (continueRunning r s) (continueRunning r t) := by
  unfold Machine.continueRunning
  split
  · exact (h.setRunning none).runWord r.word
  · exact (h.setRunning _).next

/-- What an edge does is chosen by the host's input and by fields that are the same in both states. -/
theorem edge (h : s.Alike t) (p : PortIn) : AlikeNext (edge p s) (edge p t) := by
  unfold Machine.edge
  rw [h.settling, h.running, h.rspq]
  split
  · exact h.resetEdge.next
  split
  · exact h.settled.next
  split
  · exact h.continueRunning _
  split
  · split
    · exact h.takeResponse.next
    · exact h.next
  · split
    · exact h.accept p.cmd
    · exact h.next

theorem step (h : s.Alike t) : AlikeNext (step s) (step t) := by
  have hin : s.nextIn = t.nextIn := congrArg (·.headD PortIn.idle) h.port
  rw [step_eq, step_eq, hin]
  exact h.advance.edge _

theorem cmdReady_eq (h : s.Alike t) (rst : Bool) : cmdReady rst s = cmdReady rst t := by
  simp only [cmdReady, h.settling, h.running, h.rspq]

theorem rspOut_eq (h : s.Alike t) (rst : Bool) : rspOut rst s = rspOut rst t := by
  simp only [rspOut, h.rspq]

end State.Alike

/-- Settles O36: a step leads alike states to alike states, and alike states drive the same outputs. -/
theorem unobservableStateStaysUnobserved : Obligations.UnobservableStateStaysUnobserved := by
  intro s t h
  obtain ⟨s', t', hs, ht, h'⟩ := h.step
  exact ⟨s', t', hs, ht, h', by rw [errOut, errOut, h'.err], h'.errCmd,
    fun rst => ⟨h'.cmdReady_eq rst, h'.rspOut_eq rst⟩⟩

end Sys2Proof.Machine
end

section
/-! PROOFS. A read repeated (20_memory.md R73): done again once its response is taken, RDIG and RSTAT find the contexts and
`ERR` they found before. A faulting RDIG sets an `ERR` bit that is set already, and no longer writes `ERRCMD`. -/

namespace Sys2Proof.Machine

variable (s : State)

/-! The state once a response has been given and taken -/

theorem State.takeResponse_done (e : Engine) : s.takeResponse.done e = s.done e := by cases e <;> rfl

theorem State.takeResponse_digest (e : Engine) : s.takeResponse.digest e = s.digest e := by cases e <;> rfl

theorem State.respond_digest (d : Byte) (err : Bool) (e : Engine) : (s.respond d err).digest e = s.digest e := by
  cases e <;> rfl

/-- The status byte is read from `ERR` and the contexts, not from the response register (47_status.md R295). -/
theorem status_takeResponse_respond (d : Byte) (err : Bool) (e : Engine) :
    status (s.respond d err).takeResponse e = status s e := by
  cases e <;> rfl

theorem setErrBit_idem (err : BitVec 4) (k : FaultKind) : setErrBit (setErrBit err k) k = setErrBit err k := by
  rw [setErrBit, setErrBit, BitVec.or_assoc, BitVec.or_self]

/-- A word that gets a response takes the same fault again and again with one and the same state. -/
theorem takeFault_takeResponse_takeFault (k : FaultKind) {w : CmdWord} (hw : responds w = true) :
    takeFault k w (takeFault k w s).takeResponse = takeFault k w s := by
  have hne : setErrBit s.err k ≠ 0#4 := setErrBit_ne_zero k s.err
  simp [takeFault, hw, State.recordFault, State.respond, State.takeResponse, setErrBit_idem, hne]

/-- A read's effect is its response, and what it reads stands as before. -/
theorem effectOf_takeResponse_effectOf {i : Instr} (hop : i.op = .rdig ∨ i.op = .rstat) :
    effectOf i (effectOf i s).takeResponse = effectOf i s := by
  rcases hop with h | h
  · rw [effectOf_of_rdig h, effectOf_of_rdig h, State.takeResponse_digest, State.respond_digest]
    rfl
  · rw [effectOf_of_rstat h, effectOf_of_rstat h, status_takeResponse_respond]
    rfl

/-- With the contexts unchanged, and whatever response taken, the checks find what they found (60_exceptions.md R302 to
R304). -/
theorem faultOf_takeResponse_eq {t : State} (h : SameContexts s t) (i : Instr) : faultOf i t.takeResponse = faultOf i s :=
  faultOf_congr (fun e => (t.takeResponse_done e).trans (h e).done_eq) i

/-- Settles O24: the repeated read finds the same fault, or none again. -/
theorem readsRepeat : Obligations.ReadsRepeat := by
  intro i s hop
  cases hf : faultOf i s with
  | some k =>
    have hagain := (faultOf_takeResponse_eq s (sameContexts_takeFault k (encode i) s) i).trans hf
    have hresp : responds (encode i) = true := by
      rw [responds_encode]
      rcases hop with h | h <;> simp [h]
    exact ⟨_, exec_fault hf, by rw [exec_fault hagain, takeFault_takeResponse_takeFault s k hresp]⟩
  | none =>
    have hagain := (faultOf_takeResponse_eq s (effectOf_sameContexts_of_read hop s) i).trans hf
    exact ⟨_, exec_effect hf, by rw [exec_effect hagain, effectOf_takeResponse_effectOf s hop]⟩

end Sys2Proof.Machine
end

section
/-! PROOFS. A program edge by edge (20_memory.md R77). A word's run does not read the host's inputs, so a command commutes
with putting them on the port; on a ready core with one edge for each command the presenting edge is the whole command, and
the edge after it takes the response, if the word gets one (30_encoding.md R83, R96). -/

namespace Sys2Proof.Machine

/-! The word and the command it decodes to -/

theorem Instr.op_of (e : Engine) (o : Op) (d : Byte) : (Instr.of e o d).op = o := by
  cases e <;> cases o <;> rfl

/-- A legal word has the `OP` field of its command's operation (30_encoding.md R86, R91). -/
theorem op_code_of_decode {w : CmdWord} {i : Instr} (h : decode w = .ok i) : i.op.code = opField w := by
  dsimp only [decode] at h
  split at h
  · cases h
  split at h
  · cases h
  next ho =>
    split_ifs at h
    cases h
    rw [Instr.op_of]
    exact Op.code_of_ofCode ho

theorem responds_encode_of_decode {w : CmdWord} {i : Instr} (h : decode w = .ok i) :
    responds (encode i) = responds w := by
  rw [responds, responds, opField_encode, op_code_of_decode h]

/-! One word's run -/

variable {w : CmdWord} {s t : State}

/-- Every word answers a next state (60_exceptions.md R311). -/
theorem exists_runWord_next (w : CmdWord) (s : State) : ∃ t, runWord w s = .next t := by
  cases hw : decode w with
  | error r => exact ⟨_, runWord_of_error hw s⟩
  | ok i =>
    rw [runWord_of_decode hw]
    cases hf : faultOf i s with
    | some k => exact ⟨_, exec_fault hf⟩
    | none => exact ⟨_, exec_effect hf⟩

theorem runWord_sameShell (h : runWord w s = .next t) : SameShell s t := by
  obtain ⟨k, v, rfl⟩ | ⟨i, -, rfl⟩ := runWord_cases h
  · exact sameShell_takeFault k v s
  · exact effectOf_sameShell i s

/-- With `RSPQ` empty before, a response stands after a word exactly when its `OP` field is 3 or 4 (30_encoding.md R96). -/
theorem runWord_rspq_isSome (hrspq : s.rspq = none) (h : runWord w s = .next t) : t.rspq.isSome = responds w := by
  cases hw : decode w with
  | error r =>
    rw [runWord_of_error hw, Host.Outcome.next.injEq] at h
    cases hr : responds w <;> simp [← h, hr, hrspq]
  | ok i =>
    rw [runWord_of_decode hw] at h
    rw [← responds_encode_of_decode hw]
    obtain ⟨k, -, rfl⟩ | ⟨-, rfl⟩ := exec_cases h
    · cases hr : responds (encode i) <;> simp [hr, hrspq]
    · rw [responds_encode]
      obtain ⟨hop, d, he⟩ | ⟨hop, he⟩ := effectOf_cases i s
      · rw [he]
        rcases hop with h | h <;> simp [h]
      · rw [he.rspq_eq, hrspq]
        rcases hop with h | h | h <;> simp [h]

theorem takeFault_setPort (k : FaultKind) (w : CmdWord) (s : State) (p : List PortIn) :
    takeFault k w (s.setPort p) = (takeFault k w s).setPort p := by
  unfold takeFault; split <;> rfl

theorem effectOf_setPort (i : Instr) (s : State) (p : List PortIn) :
    effectOf i (s.setPort p) = (effectOf i s).setPort p := by
  cases i <;> rfl

theorem faultOf_setPort (i : Instr) (s : State) (p : List PortIn) : faultOf i (s.setPort p) = faultOf i s :=
  faultOf_congr (fun e => by cases e <;> rfl) i

/-- A word's run neither reads nor writes what the host drives on later edges. -/
theorem runWord_setPort (h : runWord w s = .next t) (p : List PortIn) :
    runWord w (s.setPort p) = .next (t.setPort p) := by
  cases hw : decode w with
  | error r =>
    rw [runWord_of_error hw, Host.Outcome.next.injEq] at h
    rw [runWord_of_error hw, takeFault_setPort, h]
  | ok i =>
    rw [runWord_of_decode hw] at h ⊢
    obtain ⟨k, hf, rfl⟩ | ⟨hf, rfl⟩ := exec_cases h
    · rw [exec_fault ((faultOf_setPort i s p).trans hf), takeFault_setPort]
    · rw [exec_effect ((faultOf_setPort i s p).trans hf), effectOf_setPort]

/-! Runs of steps -/

theorem steps_succ_of_step (h : step s = .next t) (k : Nat) : steps (k + 1) s = steps k t := by
  simp [steps, h]

theorem responses_succ_of_step (h : step s = .next t) (k : Nat) :
    responses (k + 1) s = (takenNext s).toList ++ responses k t := by
  simp [responses, h]

theorem runWords_cons (h : runWord w s = .next t) (ws : List CmdWord) :
    runWords (w :: ws) s =
      ((runWords ws t.takeResponse).1, t.rspq.toList ++ (runWords ws t.takeResponse).2) := by
  simp [runWords, h]

/-! One word of a program through the ports -/

/-- The edge on which the host takes a response. -/
def takingEdge : PortIn := { PortIn.idle with rspReady := true }

theorem programEdges_cons_of_responds (hw : responds w = true) (ws : List CmdWord) :
    programEdges (w :: ws) = PortIn.present w :: takingEdge :: programEdges ws := by
  simp [programEdges, hw, takingEdge]

theorem programEdges_cons_of_silent (hw : responds w = false) (ws : List CmdWord) :
    programEdges (w :: ws) = PortIn.present w :: programEdges ws := by
  simp [programEdges, hw]

theorem State.takeResponse_of_rspq_none (h : s.rspq = none) : s.takeResponse = s := by
  rw [State.takeResponse, ← h]

/-- The presenting edge is the whole command (70_reset_and_hazards.md R340). -/
theorem step_presenting (hready : Ready s) (hlat : s.lat = Latency.unit) (h : runWord w s = .next t)
    (ps : List PortIn) : step (s.setPort (PortIn.present w :: ps)) = .next (t.setPort ps) :=
  calc step (s.setPort (PortIn.present w :: ps))
    _ = edge (PortIn.present w) (s.setPort ps) := step_of_port rfl
    _ = runWord w (s.setPort ps) := edge_present_of_ready (s := s.setPort ps) hready hlat w
    _ = .next (t.setPort ps) := runWord_setPort h ps

/-- The edge after it takes the response it finds (30_encoding.md R83). -/
theorem step_taking {r : Response} (hsettling : t.settling = false) (hrunning : t.running = none)
    (hrspq : t.rspq = some r) (ps : List PortIn) :
    step (t.setPort (takingEdge :: ps)) = .next (t.takeResponse.setPort ps) :=
  (step_of_port rfl).trans (edge_full (s := t.setPort ps) rfl hsettling hrunning hrspq)

theorem takenNext_presenting (hrspq : s.rspq = none) (ps : List PortIn) :
    takenNext (s.setPort (PortIn.present w :: ps)) = none := hrspq

theorem takenNext_taking (t : State) (ps : List PortIn) : takenNext (t.setPort (takingEdge :: ps)) = t.rspq := rfl

/-- The run of a program from a ready state, whatever stood on its port: the state left and the responses taken. -/
theorem hostRun_eq_runWords (ws : List CmdWord) (s : State) (rest : List PortIn) (hready : Ready s)
    (hlat : s.lat = Latency.unit) :
    steps (programEdges ws).length (s.setPort (programEdges ws ++ rest)) = .next ((runWords ws s).1.setPort rest) ∧
      responses (programEdges ws).length (s.setPort (programEdges ws ++ rest)) = (runWords ws s).2 := by
  induction ws generalizing s with
  | nil => exact ⟨rfl, rfl⟩
  | cons w ws ih =>
    obtain ⟨hsettling, hrunning, hrspq⟩ := hready
    obtain ⟨t, ht⟩ := exists_runWord_next w s
    obtain ⟨hrun, hset, hlat', -⟩ := runWord_sameShell ht
    have hsome : t.rspq.isSome = responds w := runWord_rspq_isSome hrspq ht
    have htsettling : t.settling = false := hset.trans hsettling
    have htrunning : t.running = none := hrun.trans hrunning
    obtain ⟨ihsteps, ihresponses⟩ := ih t.takeResponse ⟨htsettling, htrunning, rfl⟩ (hlat'.trans hlat)
    have hpresent := step_presenting ⟨hsettling, hrunning, hrspq⟩ hlat ht
    rw [runWords_cons ht]
    cases hw : responds w with
    | true =>
      obtain ⟨r, hr⟩ := Option.isSome_iff_exists.mp (hsome.trans hw)
      have htake := step_taking htsettling htrunning hr (programEdges ws ++ rest)
      rw [programEdges_cons_of_responds hw]
      simp only [List.length_cons, List.cons_append]
      constructor
      · rw [steps_succ_of_step (hpresent _), steps_succ_of_step htake, ihsteps]
      · rw [responses_succ_of_step (hpresent _), responses_succ_of_step htake, takenNext_presenting hrspq,
          takenNext_taking, ihresponses]
        rfl
    | false =>
      have hnone : t.rspq = none := by simpa [hw] using hsome
      rw [State.takeResponse_of_rspq_none hnone] at ihsteps ihresponses ⊢
      rw [programEdges_cons_of_silent hw]
      simp only [List.length_cons, List.cons_append]
      constructor
      · rw [steps_succ_of_step (hpresent _), ihsteps]
      · rw [responses_succ_of_step (hpresent _), takenNext_presenting hrspq, ihresponses, hnone]

/-- Settles O30: the state is its own with its own port. -/
theorem hostRunIsTheCommandRun : Obligations.HostRunIsTheCommandRun := by
  intro ws s rest hready hlat hport
  have hs : s.setPort (programEdges ws ++ rest) = s := by rw [← hport]; rfl
  simpa only [hs] using hostRun_eq_runWords ws s rest hready hlat

end Sys2Proof.Machine
end

section
/-! PROOFS. The decoder and the encoder (30_encoding.md R90 to R94): a word decodes to an instruction exactly when it is
legal, and then it is that instruction's word; a word that decodes to none lies in the reserved space decode names. -/

namespace Sys2Proof

open Machine Claims

/-! The command map and its fields -/

/-- The command map read both ways (30_encoding.md R93). -/
theorem Instr.of_parts (i : Instr) : Instr.of i.engine i.op i.imm8 = i := by
  cases i <;> rfl

theorem Instr.engine_of (e : Engine) (o : Op) (d : Byte) : (Instr.of e o d).engine = e := by
  cases e <;> cases o <;> rfl

/-- The operand of a command is its field `IMM8`, which is `0x00` where it has none (30_encoding.md R88). -/
theorem Instr.imm8_of (e : Engine) (o : Op) (d : Byte) :
    (Instr.of e o d).imm8 = if o.hasOperand then d else 0 := by
  cases e <;> cases o <;> rfl

theorem Instr.imm8_of_no_operand {i : Instr} (h : i.op.hasOperand = false) : i.imm8 = 0 := by
  rw [← i.of_parts, imm8_of, h, if_neg Bool.false_ne_true]

theorem Instr.fields_of (e : Engine) (o : Op) (d : Byte) :
    (Instr.of e o d).fields = { eng := e.code, op := o.code, rsv := 0, imm8 := if o.hasOperand then d else 0 } := by
  rw [fields, engine_of, Machine.Instr.op_of, imm8_of]

/-! Decoding a word of the map -/

/-- What decode answers once the engine and the operation are known. -/
theorem decode_of_codes {w : CmdWord} {e : Engine} {o : Op} (he : Engine.ofCode (w.extractLsb' 13 3) = some e)
    (ho : Op.ofCode (w.extractLsb' 10 3) = some o) :
    decode w = if w.extractLsb' 8 2 = 0 then
        if o.hasOperand = true ∨ w.extractLsb' 0 8 = 0 then .ok (Instr.of e o (w.extractLsb' 0 8))
        else .error .immField
      else .error .rsvField := by
  have himm : (!o.hasOperand && w.extractLsb' 0 8 ≠ 0) = true ↔ ¬ (o.hasOperand = true ∨ w.extractLsb' 0 8 = 0) := by
    rw [Bool.and_eq_true, decide_eq_true_iff, Bool.not_eq_true', ← Bool.not_eq_true, not_or]
  simp only [decode, Cmd16.ofWord, he, ho]
  exact (ite_not ..).trans (if_congr Iff.rfl ((if_congr himm rfl rfl).trans (ite_not ..)) rfl)

/-- Settles O2: the fields of the word are the instruction's fields, and they name the instruction. -/
theorem decodeOfEncode : Obligations.DecodeOfEncode := by
  intro i
  obtain ⟨heng, hop, hrsv, himm⟩ := Cmd16.mk.inj (Cmd16.ofWord_toWord i.fields)
  have hoperand : i.op.hasOperand = true ∨ i.imm8 = 0 := by
    cases h : i.op.hasOperand with
    | true => exact .inl rfl
    | false => exact .inr (Instr.imm8_of_no_operand h)
  have he : Engine.ofCode ((encode i).extractLsb' 13 3) = some i.engine :=
    (congrArg _ heng).trans (Engine.ofCode_code _)
  have ho : Op.ofCode ((encode i).extractLsb' 10 3) = some i.op := (congrArg _ hop).trans (Op.ofCode_code _)
  have hdec := decode_of_codes he ho
  rw [encode, himm, if_pos hrsv, if_pos hoperand] at hdec
  exact hdec.trans (congrArg _ i.of_parts)

/-- The field `IMM8` is the low byte of the word (30_encoding.md R84). -/
theorem Cmd16.toWord_eq_or (c : Cmd16) : c.toWord = { c with imm8 := 0 }.toWord ||| c.imm8.setWidth 16 := by
  apply BitVec.eq_of_getLsbD_eq
  intro k hk
  simp only [toWord, BitVec.getLsbD_or, BitVec.getLsbD_append, BitVec.getLsbD_setWidth, hk, decide_true, Bool.true_and]
  by_cases h : k < 8
  · simp [h]
  · simp [h, BitVec.getLsbD_of_ge c.imm8 k (by omega)]

/-- The word of a command is its word with operand 0, and the operand in bits 7:0. -/
theorem encode_of_operand (e : Engine) {o : Op} (ho : o.hasOperand = true) (d : Byte) :
    encode (Instr.of e o d) = encode (Instr.of e o 0) ||| d.setWidth 16 := by
  simp only [encode, Instr.fields_of, ho, if_true]
  exact Cmd16.toWord_eq_or _

theorem decode_or_operand (e : Engine) {o : Op} (ho : o.hasOperand = true) (d : Byte) :
    decode (encode (Instr.of e o 0) ||| d.setWidth 16) = .ok (Instr.of e o d) := by
  rw [← encode_of_operand e ho, decodeOfEncode]

theorem decode_absorb (e : Engine) (b : Byte) :
    decode (encode (Instr.of e .absorb 0) ||| b.setWidth 16) = .ok (Instr.of e .absorb b) :=
  decode_or_operand e rfl b

theorem decode_rdig (e : Engine) (k : Byte) :
    decode (encode (Instr.of e .rdig 0) ||| k.setWidth 16) = .ok (Instr.of e .rdig k) :=
  decode_or_operand e rfl k

/-- Settles O1: each word of the table is the word of its command. -/
theorem commandMapDecodes : Obligations.CommandMapDecodes := fun b =>
  ⟨decodeOfEncode .djb2Init, decode_absorb .djb2 b, decodeOfEncode .djb2Finalize, decode_rdig .djb2 b,
    decodeOfEncode .djb2Rstat,
    decodeOfEncode .md2Init, decode_absorb .md2 b, decodeOfEncode .md2Finalize, decode_rdig .md2 b,
    decodeOfEncode .md2Rstat,
    decodeOfEncode .md5Init, decode_absorb .md5 b, decodeOfEncode .md5Finalize, decode_rdig .md5 b,
    decodeOfEncode .md5Rstat,
    decodeOfEncode .sha1Init, decode_absorb .sha1 b, decodeOfEncode .sha1Finalize, decode_rdig .sha1 b,
    decodeOfEncode .sha1Rstat,
    decodeOfEncode .sha224Init, decode_absorb .sha224 b, decodeOfEncode .sha224Finalize, decode_rdig .sha224 b,
    decodeOfEncode .sha224Rstat,
    decodeOfEncode .sha256Init, decode_absorb .sha256 b, decodeOfEncode .sha256Finalize, decode_rdig .sha256 b,
    decodeOfEncode .sha256Rstat⟩

/-! What decode answers on every word -/

theorem Engine.not_le_of_ofCode_eq_none {c : BitVec 3} (h : ofCode c = none) : ¬ c ≤ 5 := by
  revert h; revert c; decide

theorem Op.not_le_of_ofCode_eq_none {c : BitVec 3} (h : ofCode c = none) : ¬ c ≤ 4 := by
  revert h; revert c; decide

theorem Engine.code_le (e : Engine) : e.code ≤ 5 := by cases e <;> decide

theorem Op.code_le (o : Op) : o.code ≤ 4 := by cases o <;> decide

/-- The operand column of 30_encoding.md R88. -/
theorem Op.hasOperand_iff (o : Op) : o.hasOperand = true ↔ o.code = 1 ∨ o.code = 3 := by
  cases o <;> decide

/-- Of the operations 0 to 4, those without an operand (30_encoding.md R86, R88). -/
theorem no_operand_code_iff {c : BitVec 3} (h : c ≤ 4) : c = 0 ∨ c = 2 ∨ c = 4 ↔ ¬ (c = 1 ∨ c = 3) := by
  revert h; revert c; decide

/-- What decode answers, by the first clause of 30_encoding.md R90 that fails. -/
theorem decode_cases (w : CmdWord) :
    (decode w = .error .engine ∧ ¬ w.extractLsb' 13 3 ≤ 5) ∨
    (decode w = .error .operation ∧ w.extractLsb' 13 3 ≤ 5 ∧ ¬ w.extractLsb' 10 3 ≤ 4) ∨
    (decode w = .error .rsvField ∧ w.extractLsb' 13 3 ≤ 5 ∧ w.extractLsb' 10 3 ≤ 4 ∧ ¬ w.extractLsb' 8 2 = 0) ∨
    (decode w = .error .immField ∧ w.extractLsb' 13 3 ≤ 5 ∧ w.extractLsb' 10 3 ≤ 4 ∧ w.extractLsb' 8 2 = 0 ∧
      ¬ (w.extractLsb' 10 3 = 1 ∨ w.extractLsb' 10 3 = 3) ∧ ¬ w.extractLsb' 0 8 = 0) ∨
    ((∃ i, decode w = .ok i ∧ encode i = w) ∧ LegalWord w) := by
  cases he : Engine.ofCode (w.extractLsb' 13 3) with
  | none => exact .inl ⟨by simp only [decode, Cmd16.ofWord, he], Engine.not_le_of_ofCode_eq_none he⟩
  | some e =>
  have heng : e.code = w.extractLsb' 13 3 := Engine.code_of_ofCode he
  have hle : w.extractLsb' 13 3 ≤ 5 := heng ▸ e.code_le
  cases ho : Op.ofCode (w.extractLsb' 10 3) with
  | none => exact .inr (.inl ⟨by simp only [decode, Cmd16.ofWord, he, ho], hle, Op.not_le_of_ofCode_eq_none ho⟩)
  | some o =>
  have hop : o.code = w.extractLsb' 10 3 := Op.code_of_ofCode ho
  have hole : w.extractLsb' 10 3 ≤ 4 := hop ▸ o.code_le
  have hdec := decode_of_codes he ho
  by_cases hr : w.extractLsb' 8 2 = 0
  · rw [if_pos hr] at hdec
    by_cases hi : o.hasOperand = true ∨ w.extractLsb' 0 8 = 0
    · rw [if_pos hi] at hdec
      refine .inr (.inr (.inr (.inr ⟨⟨_, hdec, ?_⟩, hle, hole, hr, ?_⟩)))
      · have himm : (if o.hasOperand then w.extractLsb' 0 8 else 0) = w.extractLsb' 0 8 :=
          ite_eq_left_iff.mpr fun h => (hi.resolve_left h).symm
        rw [encode, Instr.fields_of, heng, hop, himm, ← hr]
        exact Cmd16.toWord_ofWord w
      · rwa [o.hasOperand_iff, hop, or_assoc] at hi
    · rw [if_neg hi] at hdec
      rw [o.hasOperand_iff, hop, not_or] at hi
      exact .inr (.inr (.inr (.inl ⟨hdec, hle, hole, hr, hi⟩)))
  · rw [if_neg hr] at hdec
    exact .inr (.inr (.inl ⟨hdec, hle, hole, hr⟩))

/-- A word that decodes is legal, and is the word of its command: decode is one-to-one (30_encoding.md R91). -/
theorem legal_of_decode {w : CmdWord} {i : Instr} (h : decode w = .ok i) : LegalWord w ∧ encode i = w := by
  obtain ⟨hd, -⟩ | ⟨hd, -⟩ | ⟨hd, -⟩ | ⟨hd, -⟩ | ⟨⟨j, hd, hj⟩, hlegal⟩ := decode_cases w
  · cases h.symm.trans hd
  · cases h.symm.trans hd
  · cases h.symm.trans hd
  · cases h.symm.trans hd
  · cases h.symm.trans hd
    exact ⟨hlegal, hj⟩

/-- A word in a reserved space breaks the clause of 30_encoding.md R90 that decode names. -/
theorem not_legal_of_decode {w : CmdWord} {r : Reserved} (h : decode w = .error r) : ¬ LegalWord w := by
  rintro ⟨heng, hop, hrsv, himm⟩
  obtain ⟨-, hf⟩ | ⟨-, -, hf⟩ | ⟨-, -, -, hf⟩ | ⟨-, -, -, -, hf, hf'⟩ | ⟨⟨i, hd, -⟩, -⟩ := decode_cases w
  · exact hf heng
  · exact hf hop
  · exact hf hrsv
  · exact himm.elim (fun h => hf (.inl h)) fun h => h.elim (fun h => hf (.inr h)) hf'
  · cases h.symm.trans hd

/-- Settles O3: the word a command decodes from is its word, so its fields are the command's. -/
theorem decodeIsTotalAndOneToOne : Obligations.DecodeIsTotalAndOneToOne := by
  refine ⟨fun w => ?_, fun i => ⟨encode i, decodeOfEncode i, fun w hw => (legal_of_decode hw).2.symm⟩⟩
  cases h : decode w with
  | error r => exact not_legal_of_decode h
  | ok i =>
    obtain ⟨hlegal, rfl⟩ := legal_of_decode h
    obtain ⟨heng, hop, -, himm⟩ := Cmd16.mk.inj (Cmd16.ofWord_toWord i.fields)
    exact ⟨hlegal, heng.symm, hop.symm, himm.symm⟩

/-- Settles O4: in each case of decode the word lies in one space only. -/
theorem reservedWordsAreNamed : Obligations.ReservedWordsAreNamed := by
  intro w
  have hsix (c : BitVec 3) : 6 ≤ c ↔ ¬ c ≤ 5 := by revert c; decide
  have hfive (c : BitVec 3) : 5 ≤ c ↔ ¬ c ≤ 4 := by revert c; decide
  have hnone := no_operand_code_iff (c := w.extractLsb' 10 3)
  rw [hsix, hfive]
  obtain ⟨hd, heng⟩ | ⟨hd, heng, hop⟩ | ⟨hd, heng, hop, hrsv⟩ | ⟨hd, heng, hop, hrsv, himm⟩ |
    ⟨⟨i, hd, -⟩, heng, hop, hrsv, himm⟩ := decode_cases w
  all_goals simp only [hd, Except.error.injEq, reduceCtorEq, true_iff, false_iff]
  all_goals tauto

end Sys2Proof
end

section
/-! PROOFS. An accepted word (30_encoding.md R80, R92, R96): it runs the command it decodes to or takes Illegal, the fault it
takes is the first that the spec's own order of checks names, and it is answered exactly when its `OP` field is 3 or 4. -/

namespace Sys2Proof.Machine

open Sys2Proof.Claims

/-! The fault of a word, as the spec writes it -/

theorem digestBytes_eq_digestLength (e : Engine) : Config.digestBytes e = digestLength e := by
  cases e <;> rfl

/-- The checks of a legal command find the first fault of 60_exceptions.md R308. -/
theorem firstFault_of_decode {w : CmdWord} {i : Instr} (h : decode w = .ok i) (s : State) :
    firstFault w s = (faultOf i s).map FaultKind.code := by
  simp only [firstFault, h, faultOf]
  cases hop : i.op with
  | init => simp
  | absorb => cases hd : s.done i.engine <;> simp [FaultKind.code]
  | finalize => by_cases he : i.engine = .djb2 <;> cases hd : s.done i.engine <;> simp [he, FaultKind.code]
  | rdig =>
    cases hd : s.done i.engine with
    | false => simp [FaultKind.code]
    | true =>
      by_cases hn : digestLength i.engine ≤ i.imm8.toNat <;>
        simp [rdigFault, operandIndex, digestBytes_eq_digestLength, hn, FaultKind.code]
  | rstat => simp

theorem firstFault_of_error {w : CmdWord} {r : Reserved} (h : decode w = .error r) (s : State) :
    firstFault w s = some FaultKind.illegal.code := by
  simp only [firstFault, h, FaultKind.code]

/-- A word takes its first fault, or else leaves the effect of its command (60_exceptions.md R307, R308). -/
theorem runWord_cases_firstFault {w : CmdWord} {s t : State} (h : runWord w s = .next t) :
    (∃ k : FaultKind, firstFault w s = some k.code ∧ t = takeFault k w s) ∨
    (firstFault w s = none ∧ ∃ i, decode w = .ok i ∧ t = effectOf i s) := by
  cases hw : decode w with
  | error r =>
    rw [runWord_of_error hw, Host.Outcome.next.injEq] at h
    exact .inl ⟨.illegal, firstFault_of_error hw s, h.symm⟩
  | ok i =>
    rw [runWord_of_decode hw] at h
    rw [firstFault_of_decode hw]
    obtain ⟨k, hf, ht⟩ | ⟨hf, ht⟩ := exec_cases h
    · exact .inl ⟨k, by rw [hf]; rfl, (legal_of_decode hw).2 ▸ ht⟩
    · exact .inr ⟨by rw [hf]; rfl, i, rfl, ht⟩

/-- The words that are answered, by their bits (30_encoding.md R96). -/
theorem responds_iff (w : CmdWord) : responds w = true ↔ w.extractLsb' 10 3 = 3 ∨ w.extractLsb' 10 3 = 4 := by
  rw [responds, Bool.or_eq_true, decide_eq_true_iff, decide_eq_true_iff]
  rfl

/-- Taking a fault is what 60_exceptions.md R300 says of it. -/
theorem faulted_takeFault (k : FaultKind) (w : CmdWord) (s : State) : Faulted k.code w s (takeFault k w s) := by
  refine ⟨fun j hj => ?_, takeFault_errCmd k w s, ?_, sameContexts_takeFault k w s, sameShell_takeFault k w s⟩
  · rw [takeFault_err, setErrBit_getLsbD k s.err j hj]
  · exact (takeFault_rspq k w s).trans (if_congr (responds_iff w) rfl rfl)

/-! The response of a word -/

variable {s : State} {r : Response}

theorem takeFault_response (hs : s.rspq = none) {k : FaultKind} {w : CmdWord} (h : (takeFault k w s).rspq = some r) :
    r = { data := 0, err := true } := by
  rw [takeFault_rspq, hs] at h
  split at h
  · exact (Option.some.inj h).symm
  · cases h

theorem effectOf_response (hs : s.rspq = none) {i : Instr} (h : (effectOf i s).rspq = some r) : r.err = false := by
  obtain ⟨-, d, he⟩ | ⟨-, he⟩ := effectOf_cases i s
  · rw [he, State.respond_rspq, Option.some.injEq] at h
    rw [← h]
  · rw [he.rspq_eq, hs] at h
    cases h

/-- Settles O18: a fault gives the error response, a command's own effect a response without error. -/
theorem responseExactlyWhenShaped : Obligations.ResponseExactlyWhenShaped := by
  intro w s t hs ht
  refine ⟨by rw [runWord_rspq_isSome hs ht, responds_iff], fun r hr => ?_⟩
  obtain ⟨k, hf, rfl⟩ | ⟨hf, i, -, rfl⟩ := runWord_cases_firstFault ht
  · rw [hf]
    exact ⟨fun _ => takeFault_response hs hr, nofun⟩
  · rw [hf]
    exact ⟨nofun, fun _ => effectOf_response hs hr⟩

/-! The ports -/

theorem edgesOf_setPort (w : CmdWord) (s : State) (p : List PortIn) : edgesOf w (s.setPort p) = edgesOf w s := by
  unfold edgesOf
  cases decode w with
  | error r => rfl
  | ok i =>
    simp only [faultOf_setPort]
    rfl

/-- An illegal word takes Illegal (60_exceptions.md R301). -/
theorem runWord_of_not_legal {w : CmdWord} (h : ¬ LegalWord w) (s : State) :
    runWord w s = .next (takeFault .illegal w s) := by
  cases hw : decode w with
  | error r => exact runWord_of_error hw s
  | ok i => exact absurd (legal_of_decode hw).1 h

/-- Settles O25: the step is the accepting edge, which is the word's last one too. -/
theorem stepRunsTheDecodedCommand : Obligations.StepRunsTheDecodedCommand := by
  have runs (s : State) (w : CmdWord) : (∀ i, decode w = .ok i → runWord w s = exec i s) ∧
      (¬ LegalWord w → ∃ t, runWord w s = .next t ∧ Faulted 0 w s t) :=
    ⟨fun _ hw => runWord_of_decode hw s, fun hw => ⟨_, runWord_of_not_legal hw s, faulted_takeFault .illegal w s⟩⟩
  refine ⟨fun s p rest w ⟨hsettling, hrunning, hrspq⟩ hport ⟨hrst, hvalid, hcmd⟩ hedges => ?_, runs⟩
  have hstep : step s = runWord w (s.setPort rest) := by
    calc step s
      _ = edge p (s.setPort rest) := step_of_port hport
      _ = accept p.cmd (s.setPort rest) := edge_accept hrst hsettling hrunning hrspq hvalid
      _ = accept w (s.setPort rest) := by rw [hcmd]
      _ = runWord w (s.setPort rest) := accept_one ((edgesOf_setPort w s rest).trans_le hedges)
  rw [hstep]
  exact runs (s.setPort rest) w

/-- `cmd_ready` is 1 exactly without reset on a ready core (70_reset_and_hazards.md R340). -/
theorem cmdReady_iff (rst : Bool) (s : State) : cmdReady rst s = true ↔ rst = false ∧ Ready s := by
  simp [cmdReady, Ready, and_assoc]

/-- An edge reads `cmd_valid` and `cmd` on a ready core only. -/
theorem edge_congr_of_not_ready {p q : PortIn} (hrst : p.rst = q.rst) (hrsp : p.rspReady = q.rspReady)
    (hnot : ¬ (q.rst = false ∧ Ready s)) : edge p s = edge q s := by
  cases hr : q.rst with
  | true => rw [edge_reset (hrst.trans hr), edge_reset hr]
  | false =>
  have hr' : p.rst = false := hrst.trans hr
  cases hs : s.settling with
  | true => rw [edge_settling hr' hs, edge_settling hr hs]
  | false =>
  cases hn : s.running with
  | some r => rw [edge_running hr' hs hn, edge_running hr hs hn]
  | none =>
  cases hq : s.rspq with
  | some r => rw [edge_full hr' hs hn hq, edge_full hr hs hn hq, hrsp]
  | none => exact absurd ⟨hr, hs, hn, hq⟩ hnot

/-- Settles O28: with `cmd_ready` at 0 the edge does not read the word; with 1 it is the accepting one. -/
theorem unacceptedWordHasNoEffect : Obligations.UnacceptedWordHasNoEffect := by
  refine ⟨fun p q s hrst hrsp hnot => edge_congr_of_not_ready hrst hrsp ?_, fun p s hready hvalid => ?_⟩
  · rw [← hrst, ← cmdReady_iff, hnot]
    exact Bool.false_ne_true
  · obtain ⟨hrst, hsettling, hrunning, hrspq⟩ := (cmdReady_iff _ _).mp hready
    exact edge_accept hrst hsettling hrunning hrspq hvalid

/-- Settles O37: `err` decides `ERR ≠ 0`, and `err_cmd` is the register. -/
theorem outputsShowTheRegisters : Obligations.OutputsShowTheRegisters :=
  fun _ => ⟨decide_eq_true_iff, rfl⟩

end Sys2Proof.Machine
end

section
/-! PROOFS. The assembler (30_encoding.md R98 to R100): a rendered line is read back name by name and digit by digit, and a
pseudo-instruction stands for the words of its expansion. -/

namespace Sys2Proof.Machine

namespace Asm

/-! Names -/

theorem isNameChar_engineName (e : Engine) : ∀ c ∈ engineName e, isNameChar c = true :=
  List.all_eq_true.mp (by cases e <;> rfl)

theorem isNameChar_opName (o : Op) : ∀ c ∈ opName o, isNameChar c = true :=
  List.all_eq_true.mp (by cases o <;> rfl)

theorem lookup_engineName (e : Engine) : engineNames.lookup (engineName e) = some e := by
  cases e <;> decide

theorem lookup_opName (o : Op) : opNames.lookup (opName o) = some (.op o) := by
  cases o <;> decide

/-- An engine's name begins with a character that begins neither a comment nor `.word`. -/
theorem engineName_eq_cons (e : Engine) :
    ∃ c cs, engineName e = c :: cs ∧ isBlank c = false ∧ c.toNat ≠ 0x3B ∧ c.toNat ≠ 0x2E := by
  cases e <;> exact ⟨_, _, rfl, by decide⟩

/-- What stands behind a mnemonic: nothing, or a blank and more. -/
def EndsName (behind : List Char) : Prop := behind = [] ∨ ∃ cs, behind = ' ' :: cs

theorem EndsName.takeWhile {behind : List Char} (h : EndsName behind) : behind.takeWhile isNameChar = [] := by
  obtain rfl | ⟨cs, rfl⟩ := h <;> rfl

theorem EndsName.dropWhile {behind : List Char} (h : EndsName behind) : behind.dropWhile isNameChar = behind := by
  obtain rfl | ⟨cs, rfl⟩ := h <;> rfl

theorem EndsName.isBlank {behind : List Char} (h : EndsName behind) : (behind.head?.map isBlank).getD true = true := by
  obtain rfl | ⟨cs, rfl⟩ := h <;> rfl

/-- A line that is a mnemonic and the operand its command reads to the end says that command. -/
theorem line_of_command {e : Engine} {o : Op} {behind : List Char} {cmd : AsmCommand} (hbehind : EndsName behind)
    (hcmd : command e (.op o) (skipBlanks behind) = .ok (cmd, [])) :
    line (engineName e ++ ['.'] ++ opName o ++ behind) = .ok (some cmd) := by
  have hengine : (engineName e ++ '.' :: (opName o ++ behind)).takeWhile isNameChar = engineName e :=
    (List.takeWhile_append_of_pos (isNameChar_engineName e)).trans (List.append_nil _)
  have hdot : (engineName e ++ '.' :: (opName o ++ behind)).dropWhile isNameChar = '.' :: (opName o ++ behind) :=
    List.dropWhile_append_of_pos (isNameChar_engineName e)
  have hop : (opName o ++ behind).takeWhile isNameChar = opName o := by
    rw [List.takeWhile_append_of_pos (isNameChar_opName o), hbehind.takeWhile, List.append_nil]
  have hoperand : (opName o ++ behind).dropWhile isNameChar = behind := by
    rw [List.dropWhile_append_of_pos (isNameChar_opName o), hbehind.dropWhile]
  obtain ⟨c, cs, hname, hblank, hcomment, hraw⟩ := engineName_eq_cons e
  have hskip : skipBlanks (engineName e ++ ['.'] ++ opName o ++ behind) = c :: (cs ++ '.' :: (opName o ++ behind)) := by
    simp [hname, skipBlanks, hblank]
  have hlookup := lookup_engineName e
  rw [← hengine, hname, List.cons_append] at hlookup
  rw [hname, List.cons_append] at hdot
  rw [line, hskip]
  simp only [hcomment, hraw, hlookup, hdot, hop, hoperand, lookup_opName, hbehind.isBlank, hcmd, if_false, if_true,
    Bool.true_or]
  rfl

/-! Hexadecimal bytes -/

theorem hexValue_hexChar {n : Nat} (h : n < 16) : hexValue (hexChar n) = some n := by
  revert n; decide

/-- A byte is read back from its two digits. -/
theorem byte_hexByte (b : Byte) : byte (hexByte b) = .ok (b, []) := by
  have hhi : hexValue (hexChar (b.toNat / 16)) = some (b.toNat / 16) := hexValue_hexChar (by omega)
  have hlo : hexValue (hexChar (b.toNat % 16)) = some (b.toNat % 16) := hexValue_hexChar (by omega)
  have hval : 16 * (b.toNat / 16) + b.toNat % 16 = b.toNat := Nat.div_add_mod ..
  simp [byte, hexByte, hexLiteral, hexDigits, hhi, hlo, hval]

/-! Lines -/

theorem line_render (i : Instr) : line (render i) = .ok (some (.instr i)) := by
  cases h : i.op.hasOperand with
  | true =>
    have hcmd : command i.engine (.op i.op) (skipBlanks (' ' :: hexByte i.imm8)) = .ok (.instr i, []) := by
      have hskip : skipBlanks (' ' :: hexByte i.imm8) = hexByte i.imm8 := rfl
      simp only [command, h, hskip, byte_hexByte, if_true, i.of_parts]
    rw [render, h]
    exact line_of_command (.inr ⟨_, rfl⟩) hcmd
  | false =>
    have hcmd : command i.engine (.op i.op) (skipBlanks []) = .ok (.instr i, []) := by
      have hi : Instr.of i.engine i.op 0 = i := by
        rw [← Instr.imm8_of_no_operand h, i.of_parts]
      simp only [command, h, hi]
      rfl
    rw [render, h]
    exact line_of_command (.inl rfl) hcmd

end Asm

/-- Settles O57: the program of the one line has the words of the command the line says. -/
theorem renderedLinesAssemble : Obligations.RenderedLinesAssemble := fun i =>
  ⟨Asm.line_render i, by rw [Asm.program, Asm.line_render]; rfl⟩

/-- Settles O58: each line stands for the words of its commands, in order. -/
theorem pseudoInstructionsExpand : Obligations.PseudoInstructionsExpand := by
  intro e bs
  refine ⟨?_, ?_, ?_⟩
  · simp [AsmCommand.words, absorbsProgram]
  · simp [AsmCommand.words, rdigestProgram, digestBytes_eq_digestLength]
  · simp [AsmCommand.words, hashProgram]

end Sys2Proof.Machine
end

section
/-! PROOFS. The bit primitives (40_primitives.md R110 to R118, R123): `rotl` and `rotr` are the library's rotations of the
bits, and `ch` and `maj` are fixed bit by bit. -/

namespace Sys2Proof.Machine

section Rotations

variable {w : Nat} (x : BitVec w) {n : Nat}

theorem rotl_of_ends (h : n = 0 ∨ n = w) : rotl x n = x := if_pos h

theorem rotr_of_ends (h : n = 0 ∨ n = w) : rotr x n = x := if_pos h

theorem rotl_of_between (hpos : 0 < n) (hlt : n < w) : rotl x n = x <<< n ||| x >>> (w - n) :=
  if_neg (by omega)

theorem rotr_of_between (hpos : 0 < n) (hlt : n < w) : rotr x n = x >>> n ||| x <<< (w - n) :=
  if_neg (by omega)

theorem mod_width_of_ends {w n : Nat} (h : n = 0 ∨ n = w) : n % w = 0 := by
  obtain rfl | rfl := h
  · exact Nat.zero_mod w
  · exact Nat.mod_self n

/-- At both ends the library's amount `n % w` is 0, and in between it is `n`. -/
theorem rotl_eq_rotateLeft (h : n ≤ w) : rotl x n = x.rotateLeft n := by
  by_cases hends : n = 0 ∨ n = w
  · simp [rotl_of_ends x hends, BitVec.rotateLeft_def, mod_width_of_ends hends, BitVec.ushiftRight_eq_zero]
  · have hlt : n < w := by omega
    rw [rotl_of_between x (by omega) hlt, BitVec.rotateLeft_def, Nat.mod_eq_of_lt hlt]

theorem rotr_eq_rotateRight (h : n ≤ w) : rotr x n = x.rotateRight n := by
  by_cases hends : n = 0 ∨ n = w
  · simp [rotr_of_ends x hends, BitVec.rotateRight_def, mod_width_of_ends hends]
  · have hlt : n < w := by omega
    rw [rotr_of_between x (by omega) hlt, BitVec.rotateRight_def, Nat.mod_eq_of_lt hlt]

/-- Bit `i` of the result is bit `n + i` of the inner rotation, or bit `i - (w - n)` past the end; each of the two is bit
`i` of `x`. -/
theorem rotateRight_rotateLeft (hlt : n < w) : (x.rotateLeft n).rotateRight n = x := by
  ext i hi
  rw [BitVec.getElem_rotateRight]
  simp only [BitVec.getElem_rotateLeft, Nat.mod_eq_of_lt hlt]
  by_cases hwrap : i < w - n
  · have hback : n + i - n = i := by omega
    simp [hwrap, hback]
  · have hlow : i - (w - n) < n := by omega
    have hback : w - n + (i - (w - n)) = i := by omega
    simp [hwrap, hlow, hback]

theorem rotr_rotl (h : n ≤ w) : rotr (rotl x n) n = x := by
  obtain rfl | hlt := h.eq_or_lt
  · rw [rotl_of_ends x (.inr rfl), rotr_of_ends x (.inr rfl)]
  · rw [rotl_eq_rotateLeft x h, rotr_eq_rotateRight _ h, rotateRight_rotateLeft x hlt]

end Rotations

/-- Settles O45, from the cases of the two rotations and from the library's. -/
theorem rotationLaws : Obligations.RotationLaws := fun _ x _ h =>
  ⟨fun hends => ⟨rotl_of_ends x hends, rotr_of_ends x hends⟩,
    fun hpos hlt => ⟨rotl_of_between x hpos hlt, rotr_of_between x hpos hlt⟩,
    rotl_eq_rotateLeft x h, rotr_eq_rotateRight x h, rotr_rotl x h⟩

/-- Each bit of `x` drops one of the two terms (R113), so they never meet in a 1. -/
theorem ch_eq_or (x y z : Word) : ch x y z = ((x &&& y) ||| (~~~x &&& z)) := by
  ext i
  cases hx : x[i] <;> simp [ch, hx]

/-- The majority form of `MAJ` (R114). -/
theorem getLsbD_maj (x y z : Word) (k : Nat) : (maj x y z).getLsbD k =
    ((x.getLsbD k && y.getLsbD k) || (x.getLsbD k && z.getLsbD k) || (y.getLsbD k && z.getLsbD k)) := by
  have majority : ∀ a b c : Bool, ((a && b) ^^ (a && c) ^^ (b && c)) = ((a && b) || (a && c) || (b && c)) := by decide
  simp only [maj, BitVec.getLsbD_xor, BitVec.getLsbD_and, majority]

/-- Settles O46: the first forms are the definitions. -/
theorem chooseAndMajority : Obligations.ChooseAndMajority := fun x y z =>
  ⟨rfl, ch_eq_or x y z, rfl, getLsbD_maj x y z⟩

/-- Settles O47: the amounts are the definitions', and `shr` is the logical shift. -/
theorem sigmaFunctions : Obligations.SigmaFunctions := fun _ => ⟨rfl, rfl, rfl, rfl⟩

/-- Settles O48 by evaluation of the twelve closed examples. -/
theorem primitiveExamples : Obligations.PrimitiveExamples := by
  unfold Obligations.PrimitiveExamples
  decide

end Sys2Proof.Machine
end

section
/-! PROOFS. Lists of commands (20_memory.md R77): a command that finds no fault hands its own effect to the next one, so the
ABSORBs of a message fold their effects over its bytes, and a whole message completes from every state. -/

namespace Sys2Proof.Machine

open Sys2Proof.Claims

variable {e : Engine} {s : State}

theorem execAll_cons_of_exec {i : Instr} {t : State} (h : exec i s = .next t) (is : List Instr) :
    execAll (i :: is) s = execAll is t := by
  simp only [execAll, h]

/-- Every command answers a next state (60_exceptions.md R311). -/
theorem exists_exec_next (i : Instr) (s : State) : ∃ t, exec i s = .next t := by
  cases h : faultOf i s with
  | none => exact ⟨_, exec_effect h⟩
  | some k => exact ⟨_, exec_fault h⟩

/-- The commands of two lists joined are those of the first, then those of the second. -/
theorem execAll_append_of_execAll {is : List Instr} {t : State} (h : execAll is s = .next t) (js : List Instr) :
    execAll (is ++ js) s = execAll js t := by
  induction is generalizing s with
  | nil => cases h; rfl
  | cons i is ih =>
    obtain ⟨u, hu⟩ := exists_exec_next i s
    rw [execAll_cons_of_exec hu] at h
    rw [List.cons_append, execAll_cons_of_exec hu, ih h]

theorem faultOf_init (e : Engine) (d : Byte) (s : State) : faultOf (Instr.of e .init d) s = none :=
  faultOf_of_unchecked (.inl (Instr.op_of ..)) s

theorem faultOf_absorb (h : s.done e = false) (b : Byte) : faultOf (Instr.of e .absorb b) s = none := by
  simp [faultOf, Instr.op_of, Instr.engine_of, h]

theorem faultOf_finalize (h : s.done e = false) (d : Byte) : faultOf (Instr.of e .finalize d) s = none := by
  simp [faultOf, Instr.op_of, Instr.engine_of, h]

/-- The state after the ABSORBs of a list of bytes, when no check of theirs finds a fault. -/
def State.absorbAll (s : State) (e : Engine) (bs : List Byte) : State :=
  bs.foldl (fun t b => effectOf (Instr.of e .absorb b) t) s

theorem State.absorbAll_cons (s : State) (e : Engine) (b : Byte) (bs : List Byte) :
    s.absorbAll e (b :: bs) = (effectOf (Instr.of e .absorb b) s).absorbAll e bs := rfl

theorem effectOf_absorb_done (b : Byte) : (effectOf (Instr.of e .absorb b) s).done e = s.done e := by
  simpa only [Instr.engine_of, Instr.op_of] using effectOf_done_engine (Instr.of e .absorb b) s

theorem effectOf_init_done (d : Byte) : (effectOf (Instr.of e .init d) s).done e = false := by
  simpa only [Instr.engine_of, Instr.op_of] using effectOf_done_engine (Instr.of e .init d) s

theorem State.absorbAll_done (bs : List Byte) : (s.absorbAll e bs).done e = s.done e := by
  induction bs generalizing s with
  | nil => rfl
  | cons b bs ih => rw [absorbAll_cons, ih, effectOf_absorb_done]

/-- The ABSORBs of a message complete on an engine that is not finalized. -/
theorem execAll_absorbsProgram (h : s.done e = false) (bs : List Byte) :
    execAll (absorbsProgram e bs) s = .next (s.absorbAll e bs) := by
  induction bs generalizing s with
  | nil => rfl
  | cons b bs ih =>
    calc execAll (absorbsProgram e (b :: bs)) s
      _ = execAll (absorbsProgram e bs) (effectOf (Instr.of e .absorb b) s) :=
        execAll_cons_of_exec (exec_effect (faultOf_absorb h b)) _
      _ = .next (s.absorbAll e (b :: bs)) := ih ((effectOf_absorb_done b).trans h)

/-- INIT and the ABSORBs of a message complete from every state. -/
theorem execAll_init_absorbsProgram (e : Engine) (m : List Byte) (s : State) :
    execAll ([Instr.of e .init 0] ++ absorbsProgram e m) s =
      .next ((effectOf (Instr.of e .init 0) s).absorbAll e m) := by
  rw [List.singleton_append, execAll_cons_of_exec (exec_effect (faultOf_init e 0 s))]
  exact execAll_absorbsProgram (effectOf_init_done 0) m

/-- The state that a whole message leaves on engine `e`. -/
def State.afterMessage (s : State) (e : Engine) (m : List Byte) : State :=
  effectOf (Instr.of e .finalize 0) ((effectOf (Instr.of e .init 0) s).absorbAll e m)

/-- A whole message completes from every state. -/
theorem execAll_messageProgram (e : Engine) (m : List Byte) (s : State) :
    execAll (messageProgram e m) s = .next (s.afterMessage e m) := by
  rw [messageProgram, execAll_append_of_execAll (execAll_init_absorbsProgram e m s)]
  exact execAll_cons_of_exec
    (exec_effect (faultOf_finalize ((State.absorbAll_done m).trans (effectOf_init_done 0)) 0)) []

/-- Settles O44: the program completes, and the kernel evaluates the model on the state it leaves. -/
theorem publishedDigests : Obligations.PublishedDigests :=
  ⟨⟨_, execAll_messageProgram .djb2 _ _, by decide +kernel⟩,
    ⟨_, execAll_messageProgram .md2 _ _, by decide +kernel⟩,
    ⟨_, execAll_messageProgram .md5 _ _, by decide +kernel⟩,
    ⟨_, execAll_messageProgram .sha1 _ _, by decide +kernel⟩,
    ⟨_, execAll_messageProgram .sha224 _ _, by decide +kernel⟩,
    ⟨_, execAll_messageProgram .sha256 _ _, by decide +kernel⟩⟩

end Sys2Proof.Machine
end

section
/-! PROOFS. The djb2 engine (41_djb2.md R130 to R136), the INIT of every engine, and what an RDIG answers when the bytes of
its engine's digest are known. -/

namespace Sys2Proof.Machine

open Sys2Proof.Claims

variable {s : State}

/-! Commands with checks -/

/-- A command whose checks find a fault does what 60_exceptions.md R300 says. -/
theorem exists_exec_faulted {i : Instr} {k : FaultKind} (h : faultOf i s = some k) :
    ∃ t, exec i s = .next t ∧ Faulted k.code (encode i) s t :=
  ⟨_, exec_fault h, faulted_takeFault k (encode i) s⟩

theorem faultOf_rdig (e : Engine) (k : Byte) (s : State) :
    faultOf (Instr.of e .rdig k) s = rdigFault (s.done e) (digestLength e) k.toNat := by
  simp [faultOf, Instr.op_of, Instr.engine_of, Instr.imm8_of, Op.hasOperand, operandIndex, digestBytes_eq_digestLength]

/-- RDIG of any engine, from what holds of the bytes of its digest (60_exceptions.md R303, R304). -/
theorem readsDigest_of_digest (e : Engine) {IsByte : Nat → Byte → Prop}
    (h : ∀ i < digestLength e, IsByte i ((s.digest e).getD i 0)) :
    ReadsDigest (Instr.of e .rdig) (encode (Instr.of e .rdig 0)) (s.done e) (digestLength e) IsByte s := by
  intro k
  refine ⟨encode_of_operand e rfl k, fun hd => ?_, fun hd hk => ?_, fun hd hk => ⟨_, h _ hk, ?_⟩⟩
  · exact exists_exec_faulted (k := .notDone) (by rw [faultOf_rdig, hd, rdigFault_false])
  · exact exists_exec_faulted (k := .range) (by rw [faultOf_rdig, hd, rdigFault_of_le hk])
  · rw [exec_effect (by rw [faultOf_rdig, hd, rdigFault_of_lt hk]), effectOf_of_rdig (Instr.op_of ..)]
    simp only [Instr.engine_of, Instr.imm8_of, Op.hasOperand, if_true]
    rfl

/-! The digest bytes -/

theorem digestDjb2_getD (h : Word) {i : Nat} (hi : i < 4) : (digestDjb2 h).getD i 0 = h.extractLsb' (24 - 8 * i) 8 := by
  match i, hi with
  | 0, _ | 1, _ | 2, _ | 3, _ => rfl

theorem digestMd2_getD (x : Md2Work) (k : Fin 16) : (digestMd2 x).getD k.val 0 = x[k.val] := by
  simp [digestMd2, List.getD_eq_getElem?_getD]

/-- Settles O12: the digest of djb2 is the bytes of `H` from the top down, that of MD2 the first sixteen bytes of `X`. -/
theorem rdigOfDjb2AndMd2 : Obligations.RdigOfDjb2AndMd2 := by
  refine fun s => ⟨readsDigest_of_digest .djb2 fun i hi => digestDjb2_getD s.djb2.h hi, readsDigest_of_digest .md2 ?_⟩
  rintro _ - k rfl
  exact digestMd2_getD s.md2.x k

/-! djb2 -/

theorem State.absorbAll_djb2 (s : State) (bs : List Byte) :
    (s.absorbAll .djb2 bs).djb2 = { h := bs.foldl djb2Step s.djb2.h, done := s.djb2.done } := by
  induction bs generalizing s with
  | nil => rfl
  | cons b bs ih => rw [absorbAll_cons, ih]; rfl

/-- Settles O38: the ABSORBs complete, and each is one step of the fold. -/
theorem djb2AbsorbFolds : Obligations.Djb2AbsorbFolds := fun bs s hd =>
  ⟨_, execAll_absorbsProgram (e := .djb2) hd bs, (s.absorbAll_djb2 bs).trans (congrArg (Djb2Ctx.mk _) hd)⟩

/-- The second form of 41_djb2.md R131: multiplying by 33 is a shift and an addition. -/
theorem mul_33_eq_shiftLeft_add (h : Word) : h * 33 = (h <<< 5) + h := by
  rw [BitVec.shiftLeft_eq_mul_twoPow]
  change h * (BitVec.twoPow 32 5 + 1) = _
  ring

/-- Settles O6: before FINALIZE the effect is one step on `H`, after it the check finds Spent. -/
theorem djb2AbsorbResult : Obligations.Djb2AbsorbResult := by
  refine fun b s => ⟨encode_of_operand .djb2 (o := .absorb) rfl b, fun hd => ⟨?_, ?_⟩, fun hd => ?_⟩
  · exact exec_effect (faultOf_absorb (e := .djb2) hd b)
  · rw [mul_33_eq_shiftLeft_add]
  · exact exists_exec_faulted (k := .spent) (congrArg spentFault hd)

theorem effectOf_djb2Finalize_of_done (hd : s.djb2.done = true) : effectOf .djb2Finalize s = s :=
  congrArg (fun d => s.setDjb2 { h := s.djb2.h, done := d }) hd.symm

/-- Settles O9: FINALIZE of djb2 is unchecked and writes `DONE` alone, so where `DONE` is 1 it writes what stands there. -/
theorem djb2FinalizeResult : Obligations.Djb2FinalizeResult := by
  have runs (s : State) : exec .djb2Finalize s = .next (effectOf .djb2Finalize s) :=
    exec_effect (faultOf_of_unchecked (.inr (.inr rfl)) s)
  exact ⟨by decide, fun s => ⟨runs s, fun hd => (runs s).trans (congrArg _ (effectOf_djb2Finalize_of_done hd))⟩⟩

/-! INIT -/

/-- Settles O5: INIT is unchecked, and its effect is the initial context of its engine. -/
theorem initStartsANewMessage : Obligations.InitStartsANewMessage :=
  ⟨by decide, fun s => ⟨exec_effect (faultOf_init .djb2 0 s), exec_effect (faultOf_init .md2 0 s),
    exec_effect (faultOf_init .md5 0 s), exec_effect (faultOf_init .sha1 0 s), exec_effect (faultOf_init .sha224 0 s),
    exec_effect (faultOf_init .sha256 0 s)⟩⟩

end Sys2Proof.Machine
end

section
/-! PROOFS. MD2 (42_md2.md): the stages as the spec's index loops (R153 to R156), what ABSORB and FINALIZE leave (R160 to
R163), and a streamed message against the one-shot construction (R168). -/

namespace Sys2Proof.Machine

open Sys2Proof.Claims

/-! ABSORB and FINALIZE -/

theorem exec_md2Absorb {s : State} (hd : s.md2.done = false) (d : Byte) :
    exec (.md2Absorb d) s = .next (s.setMd2 (md2Absorb d s.md2)) :=
  exec_effect (faultOf_absorb (e := .md2) hd d)

/-- Settles O7: before FINALIZE the effect is one of the two ways an ABSORB ends, after it the check finds Spent. -/
theorem md2AbsorbResult : Obligations.Md2AbsorbResult := by
  refine fun d s => ⟨encode_of_operand .md2 (o := .absorb) rfl d, fun hd hroom => ?_, fun hd hfull => ?_, fun hd => ?_⟩
  · rw [exec_md2Absorb hd, md2Absorb_of_room d s.md2 hroom.ne]
    rfl
  · rw [exec_md2Absorb hd, md2Absorb_of_full d s.md2 hfull]
    rfl
  · exact exists_exec_faulted (k := .spent) (congrArg spentFault hd)

/-- The pad block read from the buffered bytes on (R161, R162). -/
theorem md2Pad_getElem_of_fill (fill : Fin 16) (b : Md2Block) (j : Fin 16) :
    (md2Pad fill b)[j.val] = if j < fill then b[j.val] else BitVec.ofNat 8 (16 - fill.val) := by
  rw [md2Pad_getElem, ← ite_not]
  exact if_congr Nat.not_le rfl rfl

/-- Settles O10: before FINALIZE the block is the pad block, after it the check finds Spent. -/
theorem md2FinalizeResult : Obligations.Md2FinalizeResult := by
  refine ⟨by decide, fun s => ⟨fun hd => ⟨md2Pad s.md2.fill s.md2.b, md2Pad_getElem_of_fill s.md2.fill s.md2.b, ?_, ?_, ?_⟩,
    fun hd => ?_⟩⟩
  · omega
  · omega
  · exact exec_effect (faultOf_finalize (e := .md2) hd 0)
  · exact exists_exec_faulted (k := .spent) (congrArg spentFault hd)

/-! The table and the load stage -/

/-- The numbers `f a` of the members of a list, as the bits of one number. -/
def bitSet {α : Type} (f : α → Nat) (l : List α) : Nat := l.foldr (fun a bits => 2 ^ f a ||| bits) 0

theorem exists_of_testBit_bitSet {α : Type} {f : α → Nat} {l : List α} {k : Nat} (h : (bitSet f l).testBit k = true) :
    ∃ a ∈ l, f a = k := by
  induction l with
  | nil => simp [bitSet] at h
  | cons a l ih =>
    have hor : f a = k ∨ (bitSet f l).testBit k = true := by
      simpa [bitSet, Nat.testBit_or, Nat.testBit_two_pow] using h
    obtain rfl | hk := hor
    · exact ⟨a, List.mem_cons_self, rfl⟩
    · obtain ⟨b, hb, hfb⟩ := ih hk
      exact ⟨b, List.mem_cons_of_mem a hb, hfb⟩

/-- The entries of `ROM_S` set all the 256 bits. -/
theorem bitSet_romS : bitSet (fun i => (romS (BitVec.ofNat 8 i)).toNat) (List.range 256) = 2 ^ 256 - 1 := by
  decide +kernel

theorem romS_surjective : Function.Surjective romS := fun y => by
  have hbit : (2 ^ 256 - 1).testBit y.toNat = true := by
    rw [Nat.testBit_two_pow_sub_one, decide_eq_true_iff]
    exact y.isLt
  rw [← bitSet_romS] at hbit
  obtain ⟨i, -, hi⟩ := exists_of_testBit_bitSet hbit
  exact ⟨BitVec.ofNat 8 i, BitVec.eq_of_toNat_eq hi⟩

/-- Settles O49: on the finitely many bytes a surjection is a bijection. -/
theorem romSIsAPermutation : Obligations.RomSIsAPermutation :=
  ⟨⟨Finite.injective_iff_surjective.mpr romS_surjective, romS_surjective⟩, by decide +kernel⟩

/-- Settles O50, one range of the indices after the other. -/
theorem md2LoadByIndex : Obligations.Md2LoadByIndex := by
  refine fun x m j => ⟨?_, ?_, ?_⟩
  · simp [md2Load]
  · have hlt : 16 + j.val < 32 := by omega
    simp [md2Load, hlt]
  · have hge : ¬ 32 + j.val < 16 := by omega
    simp [md2Load, hge]

/-! A loop over the indices, and the bytes from the next index on -/

theorem finRange_drop_of_end {n : Nat} {v : Vector Byte n} {before : List Byte} (h : v.toList = before ++ []) :
    (List.finRange n).drop before.length = [] := by
  have hlen := congrArg List.length h
  simp only [List.append_nil, Vector.length_toList] at hlen
  simp [← hlen]

section Cut

variable {n : Nat} {v : Vector Byte n} {before behind : List Byte} {x : Byte}
  (h : v.toList = before ++ x :: behind)
include h

theorem length_lt_of_cut : before.length < n := by
  have hlen := congrArg List.length h
  simp only [Vector.length_toList, List.length_append, List.length_cons] at hlen
  omega

theorem finRange_drop_of_cut :
    (List.finRange n).drop before.length =
      ⟨before.length, length_lt_of_cut h⟩ :: (List.finRange n).drop (before.length + 1) := by
  rw [List.drop_eq_getElem_cons (by simpa using length_lt_of_cut h), List.getElem_finRange]
  rfl

theorem getElem_of_cut : v[before.length]'(length_lt_of_cut h) = x := by
  simp [← Vector.getElem_toList, h]

theorem toList_set_of_cut (y : Byte) :
    (v.set before.length y (length_lt_of_cut h)).toList = (before ++ [y]) ++ behind := by
  simp [Vector.toList_set, h]

end Cut

/-! The mixer -/

/-- One byte of the mixer's loop (R154). -/
def mixStep (q : Md2Work × Byte) (k : Fin 48) : Md2Work × Byte :=
  (q.1.set k (q.1[k.val] ^^^ romS q.2), q.1[k.val] ^^^ romS q.2)

/-- The index loop from any index on does to the bytes there what `mixBytes` does, and leaves those before. -/
theorem foldl_mixStep {v : Md2Work} {before behind : List Byte} (h : v.toList = before ++ behind) (t : Byte) :
    (((List.finRange 48).drop before.length).foldl mixStep (v, t)).1.toList = before ++ (mixBytes t behind).1 ∧
      (((List.finRange 48).drop before.length).foldl mixStep (v, t)).2 = (mixBytes t behind).2 := by
  induction behind generalizing v before t with
  | nil =>
    rw [finRange_drop_of_end h]
    exact ⟨h, rfl⟩
  | cons x xs ih =>
    have hstep : mixStep (v, t) ⟨before.length, length_lt_of_cut h⟩ =
        (v.set before.length (x ^^^ romS t) (length_lt_of_cut h), x ^^^ romS t) := by
      simp only [mixStep, getElem_of_cut h]
    have hrest := ih (toList_set_of_cut h (x ^^^ romS t)) (x ^^^ romS t)
    rw [List.length_append, List.length_singleton, List.append_assoc] at hrest
    rw [finRange_drop_of_cut h, List.foldl_cons, hstep]
    exact hrest

theorem mixRound_eq_foldl_mixStep (q : Md2Work × Byte) (r : Nat) :
    mixRound q r =
      (((List.finRange 48).foldl mixStep q).1, ((List.finRange 48).foldl mixStep q).2 + BitVec.ofNat 8 r) := by
  obtain ⟨hbytes, hlast⟩ := foldl_mixStep (v := q.1) (before := []) rfl q.2
  refine Prod.ext (Vector.toList_inj.mp ?_) (congrArg (· + BitVec.ofNat 8 r) hlast.symm)
  exact hbytes.symm

/-- Settles O51: the two mixers agree in every round. -/
theorem md2MixerByIndex : Obligations.Md2MixerByIndex := fun x => by
  rw [md2Mix, funext₂ mixRound_eq_foldl_mixStep]
  rfl

/-! The checksum stage -/

/-- One byte of the checksum loop (R156). -/
def checksumStep (m : Md2Block) (q : Md2Block × Byte) (j : Fin 16) : Md2Block × Byte :=
  (q.1.set j (q.1[j.val] ^^^ romS (m[j.val] ^^^ q.2)), q.1[j.val] ^^^ romS (m[j.val] ^^^ q.2))

/-- The index loop from any index on does to the bytes there what `checksumBytes` does, and leaves those before. -/
theorem foldl_checksumStep (m : Md2Block) {c : Md2Block} {before behind : List Byte}
    (h : c.toList = before ++ behind) (l : Byte) :
    (((List.finRange 16).drop before.length).foldl (checksumStep m) (c, l)).1.toList =
      before ++ checksumBytes l (m.toList.drop before.length) behind := by
  induction behind generalizing c before l with
  | nil =>
    have hnil : checksumBytes l (m.toList.drop before.length) [] = [] := by
      cases m.toList.drop before.length <;> rfl
    rw [finRange_drop_of_end h, hnil]
    exact h
  | cons x xs ih =>
    have hlt := length_lt_of_cut h
    have hstep : checksumStep m (c, l) ⟨before.length, hlt⟩ =
        (c.set before.length (x ^^^ romS (m[before.length] ^^^ l)), x ^^^ romS (m[before.length] ^^^ l)) := by
      simp only [checksumStep, getElem_of_cut h]
    have hm : m.toList.drop before.length = m[before.length] :: m.toList.drop (before.length + 1) := by
      rw [List.drop_eq_getElem_cons (by simpa using hlt), Vector.getElem_toList]
    have hrest := ih (toList_set_of_cut h (x ^^^ romS (m[before.length] ^^^ l))) (x ^^^ romS (m[before.length] ^^^ l))
    rw [List.length_append, List.length_singleton, List.append_assoc] at hrest
    rw [finRange_drop_of_cut h, List.foldl_cons, hstep, hm]
    exact hrest

/-- Settles O52: the loop from index 0 on. -/
theorem md2ChecksumByIndex : Obligations.Md2ChecksumByIndex := fun sum m =>
  Vector.toList_inj.mp (foldl_checksumStep m (c := sum) (before := []) rfl sum[15]).symm

/-! A streamed message -/

/-- Storing a byte behind the buffered ones appends it to them. -/
theorem take_toList_set {n : Nat} (b : Vector Byte n) (fill : Fin n) (d : Byte) :
    (b.set fill d).toList.take (fill.val + 1) = b.toList.take fill.val ++ [d] := by
  rw [Vector.toList_set, List.take_set, List.take_succ_eq_append_getElem (by simp)]
  simp

theorem md2BlockOf_toList_append (b : Md2Block) (rest : List Byte) : md2BlockOf (b.toList ++ rest) = b := by
  ext j hj
  simp [md2BlockOf, List.getElem?_append]

/-- The concatenated bytes of some blocks. -/
def md2Bytes (blocks : List Md2Block) : List Byte := blocks.flatMap Vector.toList

theorem md2Bytes_append_singleton (blocks : List Md2Block) (b : Md2Block) :
    md2Bytes (blocks ++ [b]) = md2Bytes blocks ++ b.toList := by
  simp [md2Bytes]

theorem md2Bytes_length (blocks : List Md2Block) : (md2Bytes blocks).length = 16 * blocks.length := by
  simp [md2Bytes, Nat.mul_comm]

/-- Cutting the bytes of some blocks gives the blocks. -/
theorem md2BlocksOf_md2Bytes (blocks : List Md2Block) :
    md2BlocksOf ((md2Bytes blocks).length / 16) (md2Bytes blocks) = blocks := by
  rw [md2Bytes_length, Nat.mul_div_cancel_left _ (by omega)]
  induction blocks with
  | nil => rfl
  | cons b blocks ih =>
    have hcons : md2Bytes (b :: blocks) = b.toList ++ md2Bytes blocks := rfl
    rw [List.length_cons, md2BlocksOf, hcons, md2BlockOf_toList_append, List.drop_left' b.length_toList, ih]

/-- The pad block is the buffered bytes and the pad bytes (R162). -/
theorem md2Pad_toList (fill : Fin 16) (b : Md2Block) :
    (md2Pad fill b).toList =
      b.toList.take fill.val ++ List.replicate (16 - fill.val) (BitVec.ofNat 8 (16 - fill.val)) := by
  refine List.ext_getElem (by simp) fun j hj _ => ?_
  have hj : j < 16 := by simpa using hj
  rw [Vector.getElem_toList, md2Pad_getElem]
  split_ifs with hle
  · simp [hle]
  · simp [hle, List.getElem_append]

/-- The chaining value after one more block. -/
def md2Chain (x : Md2Work) (m : Md2Block) : Md2Work := md2Mix (md2Load x m)

/-- The context has absorbed exactly the message `m`: its whole blocks are transformed and the rest of it is buffered. -/
def Md2Ctx.HasAbsorbed (c : Md2Ctx) (m : List Byte) : Prop :=
  ∃ blocks : List Md2Block, m = md2Bytes blocks ++ c.b.toList.take c.fill ∧
    c.x = blocks.foldl md2Chain (Vector.replicate 48 0) ∧ c.c = blocks.foldl md2Checksum (Vector.replicate 16 0)

namespace Md2Ctx.HasAbsorbed

theorem init : initMd2.HasAbsorbed [] := ⟨[], rfl, rfl, rfl⟩

variable {c : Md2Ctx} {m : List Byte}

theorem absorb (h : c.HasAbsorbed m) (d : Byte) : (md2Absorb d c).HasAbsorbed (m ++ [d]) := by
  obtain ⟨blocks, hm, hx, hc⟩ := h
  have hbuf : m ++ [d] = md2Bytes blocks ++ (c.b.set c.fill d).toList.take (c.fill.val + 1) := by
    rw [hm, List.append_assoc, take_toList_set]
  by_cases hfull : c.fill.val + 1 = 16
  · rw [md2Absorb_of_full d c hfull]
    refine ⟨blocks ++ [c.b.set c.fill d], ?_, ?_, ?_⟩
    · rw [hbuf, hfull, List.take_of_length_le (by simp), md2Bytes_append_singleton]
      simp
    · rw [List.foldl_append, ← hx]; rfl
    · rw [List.foldl_append, ← hc]; rfl
  · rw [md2Absorb_of_room d c hfull]
    exact ⟨blocks, hbuf, hx, hc⟩

/-- The pad fills the buffer, so the padded message is the blocks and the pad block. -/
theorem finalize (h : c.HasAbsorbed m) :
    (md2Finalize c).x = md2OneShot m ∧
      (md2Finalize c).b = (md2BlocksOf ((md2PadMessage m).length / 16) (md2PadMessage m)).foldl md2Checksum
        (Vector.replicate 16 0) := by
  obtain ⟨blocks, hm, hx, hc⟩ := h
  have hfill : m.length % 16 = c.fill.val := by
    rw [hm, List.length_append, md2Bytes_length, List.length_take, Vector.length_toList]
    omega
  have hpad : md2PadMessage m = md2Bytes (blocks ++ [md2Pad c.fill c.b]) := by
    rw [md2PadMessage, hfill, md2Bytes_append_singleton, md2Pad_toList, ← List.append_assoc, ← hm]
  have hsum : (blocks ++ [md2Pad c.fill c.b]).foldl md2Checksum (Vector.replicate 16 0) = (md2Finalize c).b := by
    rw [List.foldl_append, ← hc]; rfl
  have honeShot : md2OneShot m =
      (blocks ++ [md2Pad c.fill c.b] ++ [(md2Finalize c).b]).foldl md2Chain (Vector.replicate 48 0) := by
    simp only [md2OneShot, hpad, md2BlocksOf_md2Bytes, hsum]; rfl
  refine ⟨?_, ?_⟩
  · rw [honeShot, List.foldl_append, List.foldl_append, ← hx]; rfl
  · rw [hpad, md2BlocksOf_md2Bytes, hsum]

end Md2Ctx.HasAbsorbed

theorem State.absorbAll_md2_hasAbsorbed {s : State} {m : List Byte} (h : s.md2.HasAbsorbed m) (bs : List Byte) :
    (s.absorbAll .md2 bs).md2.HasAbsorbed (m ++ bs) := by
  induction bs generalizing s m with
  | nil => rwa [List.append_nil]
  | cons b bs ih =>
    rw [absorbAll_cons, List.append_cons]
    exact ih (h.absorb b)

/-- Settles O40: INIT starts from the empty message, each ABSORB appends its byte, and FINALIZE pads what was absorbed. -/
theorem md2StreamIsOneShot : Obligations.Md2StreamIsOneShot := fun m s =>
  have h := State.absorbAll_md2_hasAbsorbed (s := effectOf .md2Init s) .init m
  ⟨s.afterMessage .md2 m, execAll_messageProgram .md2 m s, rfl, h.finalize⟩

end Sys2Proof.Machine
end

section
/-! PROOFS. The streaming shape of MD5, SHA-1, SHA-224 and SHA-256 (43_md_shape.md), said once over what an engine brings to
it (R189): what ABSORB and FINALIZE leave (R191, R193), and a streamed message against its length (R194, R196) and against
the one-shot construction (R200). -/

namespace Sys2Proof.Machine

open Sys2Proof.Claims

/-! The fields that FINALIZE leaves -/

/-- `putLen` writes the eight bytes `trailer` at 56..63 of a block (20_memory.md R69). -/
def PutsTrailer (putLen : Block → BitCount → Block) (trailer : BitCount → Nat → Byte) : Prop :=
  ∀ (b : Block) (v : BitCount) (j : Nat) (hj : j < 64),
    (putLen b v)[j] = if 56 ≤ j then trailer v (j - 56) else b[j]

section Context

variable {n : Nat} {compress : Vector Word n → Block → Vector Word n} {putLen : Block → BitCount → Block}
  {trailer : BitCount → Nat → Byte} {c : MdCtx n}

theorem mdAbsorbed_mdAbsorb (d : Byte) (c : MdCtx n) : MdAbsorbed compress d c (mdAbsorb compress d c) :=
  ⟨fun hroom => mdAbsorb_of_room compress d c hroom.ne, mdAbsorb_of_full compress d c⟩

theorem needsExtraBlock_of_le (h : c.fill.val ≤ 55) : needsExtraBlock c = false := decide_eq_false (by omega)

theorem needsExtraBlock_of_ge (h : 56 ≤ c.fill.val) : needsExtraBlock c = true := decide_eq_true (by omega)

/-- The blocks that FINALIZE compresses: the padded one, and one more where the trailer does not fit behind the `0x80` byte
(R195). -/
def mdFinalBlocks (putLen : Block → BitCount → Block) (c : MdCtx n) : List Block :=
  if needsExtraBlock c then [mdPad c.fill c.b, putLen (Vector.replicate 64 0) (totalBits c)]
  else [putLen (mdPad c.fill c.b) (totalBits c)]

theorem mdFinalBlocks_of_le (h : c.fill.val ≤ 55) :
    mdFinalBlocks putLen c = [putLen (mdPad c.fill c.b) (totalBits c)] := by
  simp [mdFinalBlocks, needsExtraBlock_of_le h]

theorem mdFinalBlocks_of_ge (h : 56 ≤ c.fill.val) :
    mdFinalBlocks putLen c = [mdPad c.fill c.b, putLen (Vector.replicate 64 0) (totalBits c)] := by
  simp [mdFinalBlocks, needsExtraBlock_of_ge h]

theorem mdFinalize_h_eq_foldl : (mdFinalize compress putLen c).h = (mdFinalBlocks putLen c).foldl compress c.h := by
  rw [mdFinalize_h, mdFinalize_b, mdFinalBlocks]
  split <;> rfl

theorem mdFinalize_b_of_le (h : c.fill.val ≤ 55) :
    (mdFinalize compress putLen c).b = putLen (mdPad c.fill c.b) (totalBits c) := by
  simp [mdFinalize_b, needsExtraBlock_of_le h]

theorem mdFinalize_b_of_ge (h : 56 ≤ c.fill.val) :
    (mdFinalize compress putLen c).b = putLen (Vector.replicate 64 0) (totalBits c) := by
  simp [mdFinalize_b, needsExtraBlock_of_ge h]

theorem mdPad_getElem_fin (fill : Fin 64) (b : Block) (j : Fin 64) :
    (mdPad fill b)[j.val] = if j < fill then b[j.val] else if j = fill then 0x80 else 0x00 := by
  rw [mdPad_getElem]
  exact if_congr Iff.rfl rfl (if_congr Fin.ext_iff.symm rfl rfl)

theorem mdFinalized_mdFinalize (hput : PutsTrailer putLen trailer) (c : MdCtx n) :
    MdFinalized compress trailer c (mdFinalize compress putLen c) := by
  refine ⟨rfl, rfl, rfl, fun hfits => ⟨fun j => ?_, ?_⟩, fun hextra => ⟨fun j => ?_, mdPad c.fill c.b, ?_, ?_⟩⟩
  · rw [mdFinalize_b_of_le hfits, hput, mdPad_getElem_fin, mdFinalize_len]
    obtain hbelow | htrailer := Nat.lt_or_ge j.val 56
    · rw [if_neg (Nat.not_le.mpr hbelow), if_pos hbelow]
    · rw [if_pos htrailer, if_neg (by omega), if_neg (by omega), if_neg (by omega)]
  · rw [mdFinalize_h_eq_foldl, mdFinalBlocks_of_le hfits, mdFinalize_b_of_le hfits]; rfl
  · rw [mdFinalize_b_of_ge hextra, hput, Vector.getElem_replicate, mdFinalize_len, ← ite_not]
    exact if_congr Nat.not_le rfl rfl
  · exact mdPad_getElem_fin c.fill c.b
  · rw [mdFinalize_h_eq_foldl, mdFinalBlocks_of_ge hextra, mdFinalize_b_of_ge hextra]; rfl

end Context

/-! Blocks as bytes -/

theorem blockOf_toList_append (b : Block) (rest : List Byte) : blockOf (b.toList ++ rest) = b := by
  ext j hj
  simp [blockOf, List.getElem?_append]

/-- The concatenated bytes of some blocks. -/
def blockBytes (blocks : List Block) : List Byte := blocks.flatMap Vector.toList

theorem blockBytes_append (as bs : List Block) : blockBytes (as ++ bs) = blockBytes as ++ blockBytes bs :=
  List.flatMap_append

theorem blockBytes_singleton (b : Block) : blockBytes [b] = b.toList := List.flatMap_singleton ..

theorem blockBytes_length (blocks : List Block) : (blockBytes blocks).length = 64 * blocks.length := by
  simp [blockBytes, Nat.mul_comm]

theorem blockBytes_append_take_length (blocks : List Block) (b : Block) (fill : Fin 64) :
    (blockBytes blocks ++ b.toList.take fill.val).length = 64 * blocks.length + fill.val := by
  rw [List.length_append, blockBytes_length, List.length_take, Vector.length_toList]
  omega

/-- Cutting the bytes of some blocks gives the blocks. -/
theorem blocksOf_blockBytes (blocks : List Block) :
    blocksOf ((blockBytes blocks).length / 64) (blockBytes blocks) = blocks := by
  rw [blockBytes_length, Nat.mul_div_cancel_left _ (by omega)]
  induction blocks with
  | nil => rfl
  | cons b blocks ih =>
    have hcons : blockBytes (b :: blocks) = b.toList ++ blockBytes blocks := rfl
    rw [List.length_cons, blocksOf, hcons, blockOf_toList_append, List.drop_left' b.length_toList, ih]

/-- The padded block is the buffered bytes, `0x80`, and zeros to its end (R193). -/
theorem mdPad_toList (fill : Fin 64) (b : Block) :
    (mdPad fill b).toList = b.toList.take fill.val ++ [0x80] ++ List.replicate (63 - fill.val) 0 := by
  refine List.ext_getElem (by simp; omega) fun j hj _ => ?_
  have hj : j < 64 := by simpa using hj
  rw [Vector.getElem_toList, mdPad_getElem]
  split_ifs with hlt heq
  · simp [hlt]
  · simp [heq]
  · have hbehind : j - fill.val ≠ 0 := by omega
    simp [List.getElem_append, List.getElem_cons, hlt, hbehind]

theorem putLen_toList {putLen : Block → BitCount → Block} {trailer : BitCount → Nat → Byte}
    (hput : PutsTrailer putLen trailer) (b : Block) (v : BitCount) :
    (putLen b v).toList = b.toList.take 56 ++ (List.range 8).map (trailer v) := by
  refine List.ext_getElem (by simp) fun j hj _ => ?_
  have hj : j < 64 := by simpa using hj
  rw [Vector.getElem_toList, hput]
  split_ifs with hle
  · simp [hle]
  · simp [Nat.lt_of_not_le hle]

/-- The final blocks are the buffered bytes and the padding of the message (R200). -/
theorem blockBytes_mdFinalBlocks {n : Nat} {putLen : Block → BitCount → Block} {trailer : BitCount → Nat → Byte}
    (hput : PutsTrailer putLen trailer) (c : MdCtx n) :
    blockBytes (mdFinalBlocks putLen c) =
      c.b.toList.take c.fill.val ++ [0x80] ++ List.replicate ((119 - c.fill.val) % 64) 0 ++
        (List.range 8).map (trailer (totalBits c)) := by
  obtain hfits | hextra : c.fill.val ≤ 55 ∨ 56 ≤ c.fill.val := by omega
  · have hzeros : (119 - c.fill.val) % 64 = 55 - c.fill.val := by omega
    have hbehind : 63 - c.fill.val = (55 - c.fill.val) + 8 := by omega
    rw [mdFinalBlocks_of_le hfits, blockBytes_singleton, putLen_toList hput, mdPad_toList, hzeros, hbehind,
      List.replicate_add, ← List.append_assoc, List.take_left' (by simp; omega)]
  · have hzeros : (119 - c.fill.val) % 64 = (63 - c.fill.val) + 56 := by omega
    rw [mdFinalBlocks_of_ge hextra, ← List.singleton_append, blockBytes_append, blockBytes_singleton,
      blockBytes_singleton, putLen_toList hput, mdPad_toList, hzeros, List.replicate_add]
    simp

/-! A streamed message -/

section Stream

variable {n : Nat} {compress : Vector Word n → Block → Vector Word n} {iv : Vector Word n} {c : MdCtx n} {m : List Byte}

/-- The context has absorbed exactly the message `m`: its whole blocks are compressed and counted and the rest of it is
buffered. -/
def MdCtx.HasAbsorbed (c : MdCtx n) (compress : Vector Word n → Block → Vector Word n) (iv : Vector Word n)
    (m : List Byte) : Prop :=
  ∃ blocks : List Block, m = blockBytes blocks ++ c.b.toList.take c.fill.val ∧
    c.h = blocks.foldl compress iv ∧ c.len = BitVec.ofNat 64 (512 * blocks.length)

namespace MdCtx.HasAbsorbed

theorem init : (initMd iv).HasAbsorbed compress iv [] := ⟨[], rfl, rfl, rfl⟩

theorem absorb (h : c.HasAbsorbed compress iv m) (d : Byte) :
    (mdAbsorb compress d c).HasAbsorbed compress iv (m ++ [d]) := by
  obtain ⟨blocks, hm, hh, hlen⟩ := h
  have hbuf : m ++ [d] = blockBytes blocks ++ (c.b.set c.fill d).toList.take (c.fill.val + 1) := by
    rw [hm, List.append_assoc, take_toList_set]
  by_cases hfull : c.fill.val + 1 = 64
  · rw [mdAbsorb_of_full compress d c hfull]
    refine ⟨blocks ++ [c.b.set c.fill d], ?_, ?_, ?_⟩
    · rw [hbuf, hfull, List.take_of_length_le (by simp), blockBytes_append, blockBytes_singleton]
      simp
    · rw [List.foldl_append, ← hh]; rfl
    · rw [List.length_append, Nat.mul_add, BitVec.ofNat_add, ← hlen]; rfl
  · rw [mdAbsorb_of_room compress d c hfull]
    exact ⟨blocks, hbuf, hh, hlen⟩

theorem fill_eq (h : c.HasAbsorbed compress iv m) : c.fill.val = m.length % 64 := by
  obtain ⟨blocks, rfl, -, -⟩ := h
  rw [blockBytes_append_take_length]
  omega

/-- `LEN` counts whole blocks (R196). -/
theorem len_eq (h : c.HasAbsorbed compress iv m) : c.len = BitVec.ofNat 64 (512 * (m.length / 64)) := by
  obtain ⟨blocks, rfl, -, hlen⟩ := h
  have hblocks : (64 * blocks.length + c.fill.val) / 64 = blocks.length := by omega
  rw [blockBytes_append_take_length, hblocks, hlen]

/-- `TOT` is the bit length of the message (R194). -/
theorem totalBits_eq (h : c.HasAbsorbed compress iv m) : totalBits c = BitVec.ofNat 64 (8 * m.length) := by
  have hsum : 8 * m.length = 512 * (m.length / 64) + 8 * (m.length % 64) := by omega
  rw [totalBits, h.len_eq, h.fill_eq, hsum, BitVec.ofNat_add]

/-- The final blocks complete the buffered bytes to the padded message (R200). -/
theorem finalize_h {putLen : Block → BitCount → Block} {trailer : BitCount → Nat → Byte}
    (hput : PutsTrailer putLen trailer) (h : c.HasAbsorbed compress iv m) :
    (mdFinalize compress putLen c).h = oneShot compress (fun v => (List.range 8).map (trailer v)) iv m := by
  have htot := h.totalBits_eq
  have hfill := h.fill_eq
  obtain ⟨blocks, hm, hh, -⟩ := h
  have hpad : padMessage (fun v => (List.range 8).map (trailer v)) m =
      blockBytes (blocks ++ mdFinalBlocks putLen c) := by
    rw [padMessage, ← htot, ← hfill, blockBytes_append, blockBytes_mdFinalBlocks hput]
    simp only [← List.append_assoc, ← hm]
  rw [oneShot, hpad, blocksOf_blockBytes, List.foldl_append, ← hh, mdFinalize_h_eq_foldl]

end MdCtx.HasAbsorbed

end Stream

/-! The four engines -/

/-- Engine `e` has the streaming shape: its context is the field that `ctx` reads and `set` writes, it starts from the words
`iv`, and its ABSORB and FINALIZE are those of 43_md_shape.md over its compression function and its trailer (R189 to R193). -/
structure MdShaped {n : Nat} (e : Engine) (ctx : State → MdCtx n) (set : State → MdCtx n → State) (iv : Vector Word n)
    (compress : Vector Word n → Block → Vector Word n) (putLen : Block → BitCount → Block)
    (trailer : BitCount → Nat → Byte) : Prop where
  ne_djb2 : e ≠ .djb2
  done_eq : ∀ s : State, s.done e = (ctx s).done
  ctx_set : ∀ (s : State) (c : MdCtx n), ctx (set s c) = c
  init_eq : ∀ s : State, effectOf (Instr.of e .init 0) s = set s (initMd iv)
  absorb_eq : ∀ (s : State) (d : Byte), effectOf (Instr.of e .absorb d) s = set s (mdAbsorb compress d (ctx s))
  finalize_eq : ∀ s : State, effectOf (Instr.of e .finalize 0) s = set s (mdFinalize compress putLen (ctx s))
  puts_trailer : PutsTrailer putLen trailer

theorem md5Shaped : MdShaped .md5 State.md5 State.setMd5 ivMd5 compressMd5 putLE64 trailerLE :=
  ⟨by decide, fun _ => rfl, fun _ _ => rfl, fun _ => rfl, fun _ _ => rfl, fun _ => rfl, putLE64_getElem⟩

theorem sha1Shaped : MdShaped .sha1 State.sha1 State.setSha1 ivSha1 compressSha1 putBE64 trailerBE :=
  ⟨by decide, fun _ => rfl, fun _ _ => rfl, fun _ => rfl, fun _ _ => rfl, fun _ => rfl, putBE64_getElem⟩

theorem sha224Shaped : MdShaped .sha224 State.sha224 State.setSha224 ivSha224 compressSha2 putBE64 trailerBE :=
  ⟨by decide, fun _ => rfl, fun _ _ => rfl, fun _ => rfl, fun _ _ => rfl, fun _ => rfl, putBE64_getElem⟩

theorem sha256Shaped : MdShaped .sha256 State.sha256 State.setSha256 ivSha256 compressSha2 putBE64 trailerBE :=
  ⟨by decide, fun _ => rfl, fun _ _ => rfl, fun _ => rfl, fun _ _ => rfl, fun _ => rfl, putBE64_getElem⟩

theorem faultOf_absorb_of_done {e : Engine} {s : State} (h : s.done e = true) (d : Byte) :
    faultOf (Instr.of e .absorb d) s = some .spent := by
  simp [faultOf, Instr.op_of, Instr.engine_of, h]

theorem faultOf_finalize_of_done {e : Engine} {s : State} (he : e ≠ .djb2) (h : s.done e = true) :
    faultOf (Instr.of e .finalize 0) s = some .spent := by
  simp [faultOf, Instr.op_of, Instr.engine_of, he, h]

namespace MdShaped

variable {n : Nat} {e : Engine} {ctx : State → MdCtx n} {set : State → MdCtx n → State} {iv : Vector Word n}
  {compress : Vector Word n → Block → Vector Word n} {putLen : Block → BitCount → Block}
  {trailer : BitCount → Nat → Byte} (shape : MdShaped e ctx set iv compress putLen trailer) {s : State} {m : List Byte}
include shape

theorem absorb_completes (hd : (ctx s).done = false) (d : Byte) :
    ∃ c, MdAbsorbed compress d (ctx s) c ∧ exec (Instr.of e .absorb d) s = .next (set s c) := by
  refine ⟨_, mdAbsorbed_mdAbsorb d (ctx s), ?_⟩
  rw [exec_effect (faultOf_absorb ((shape.done_eq s).trans hd) d), shape.absorb_eq]

theorem absorb_spent (hd : (ctx s).done = true) (d : Byte) :
    ∃ t, exec (Instr.of e .absorb d) s = .next t ∧ Faulted 1 (encode (Instr.of e .absorb d)) s t :=
  exists_exec_faulted (k := .spent) (faultOf_absorb_of_done ((shape.done_eq s).trans hd) d)

theorem finalize_completes (hd : (ctx s).done = false) :
    ∃ c, MdFinalized compress trailer (ctx s) c ∧ exec (Instr.of e .finalize 0) s = .next (set s c) := by
  refine ⟨_, mdFinalized_mdFinalize shape.puts_trailer (ctx s), ?_⟩
  rw [exec_effect (faultOf_finalize ((shape.done_eq s).trans hd) 0), shape.finalize_eq]

theorem finalize_spent (hd : (ctx s).done = true) :
    ∃ t, exec (Instr.of e .finalize 0) s = .next t ∧ Faulted 1 (encode (Instr.of e .finalize 0)) s t :=
  exists_exec_faulted (k := .spent) (faultOf_finalize_of_done shape.ne_djb2 ((shape.done_eq s).trans hd))

theorem absorbAll_hasAbsorbed (h : (ctx s).HasAbsorbed compress iv m) (bs : List Byte) :
    (ctx (s.absorbAll e bs)).HasAbsorbed compress iv (m ++ bs) := by
  induction bs generalizing s m with
  | nil => rwa [List.append_nil]
  | cons b bs ih =>
    rw [State.absorbAll_cons, List.append_cons]
    refine ih ?_
    rw [shape.absorb_eq, shape.ctx_set]
    exact h.absorb b

/-- After INIT and the ABSORBs of `m` the engine has absorbed `m`. -/
theorem init_absorbAll_hasAbsorbed (m : List Byte) (s : State) :
    (ctx ((effectOf (Instr.of e .init 0) s).absorbAll e m)).HasAbsorbed compress iv m := by
  refine shape.absorbAll_hasAbsorbed (m := []) ?_ m
  rw [shape.init_eq, shape.ctx_set]
  exact .init

theorem afterMessage_ctx (m : List Byte) (s : State) :
    ctx (s.afterMessage e m) =
      mdFinalize compress putLen (ctx ((effectOf (Instr.of e .init 0) s).absorbAll e m)) := by
  rw [State.afterMessage, shape.finalize_eq, shape.ctx_set]

theorem message_digest (m : List Byte) (s : State) :
    ∃ t, execAll (messageProgram e m) s = .next t ∧ (ctx t).done = true ∧
      (ctx t).h = oneShot compress (fun v => (List.range 8).map (trailer v)) iv m := by
  refine ⟨_, execAll_messageProgram e m s, ?_, ?_⟩
  · rw [shape.afterMessage_ctx, mdFinalize_done]
  · rw [shape.afterMessage_ctx]
    exact (shape.init_absorbAll_hasAbsorbed m s).finalize_h shape.puts_trailer

theorem message_len (m : List Byte) (s : State) :
    ∃ t, execAll (messageProgram e m) s = .next t ∧ (ctx t).len = BitVec.ofNat 64 (8 * m.length) := by
  refine ⟨_, execAll_messageProgram e m s, ?_⟩
  rw [shape.afterMessage_ctx, mdFinalize_len]
  exact (shape.init_absorbAll_hasAbsorbed m s).totalBits_eq

theorem absorbed_count (m : List Byte) (s : State) :
    ∃ t, execAll ([Instr.of e .init 0] ++ absorbsProgram e m) s = .next t ∧ (ctx t).done = false ∧
      (ctx t).fill.val = m.length % 64 ∧ (ctx t).len = BitVec.ofNat 64 (512 * (m.length / 64)) ∧
      (ctx t).len + BitVec.ofNat 64 (8 * (ctx t).fill.val) = BitVec.ofNat 64 (8 * m.length) := by
  have h := shape.init_absorbAll_hasAbsorbed m s
  refine ⟨_, execAll_init_absorbsProgram e m s, ?_, h.fill_eq, h.len_eq, h.totalBits_eq⟩
  rw [← shape.done_eq, State.absorbAll_done, effectOf_init_done]

end MdShaped

/-- Settles O8: before FINALIZE the effect is one of the two ways an ABSORB ends, after it the check finds Spent. -/
theorem mdAbsorbResults : Obligations.MdAbsorbResults := fun d _ =>
  ⟨encode_of_operand .md5 (o := .absorb) rfl d, (md5Shaped.absorb_completes · d), (md5Shaped.absorb_spent · d),
    encode_of_operand .sha1 (o := .absorb) rfl d, (sha1Shaped.absorb_completes · d), (sha1Shaped.absorb_spent · d),
    encode_of_operand .sha224 (o := .absorb) rfl d, (sha224Shaped.absorb_completes · d), (sha224Shaped.absorb_spent · d),
    encode_of_operand .sha256 (o := .absorb) rfl d, (sha256Shaped.absorb_completes · d), (sha256Shaped.absorb_spent · d)⟩

/-- Settles O11: before FINALIZE one or two blocks are compressed, by whether the trailer fits; after it the check finds
Spent. -/
theorem mdFinalizeResults : Obligations.MdFinalizeResults :=
  ⟨by decide, fun _ => ⟨md5Shaped.finalize_completes, md5Shaped.finalize_spent,
    sha1Shaped.finalize_completes, sha1Shaped.finalize_spent,
    sha224Shaped.finalize_completes, sha224Shaped.finalize_spent,
    sha256Shaped.finalize_completes, sha256Shaped.finalize_spent⟩⟩

/-- Settles O39: INIT starts from the empty message, each ABSORB appends its byte, and FINALIZE pads what was absorbed. -/
theorem mdStreamIsOneShot : Obligations.MdStreamIsOneShot := fun m s =>
  ⟨md5Shaped.message_digest m s, sha1Shaped.message_digest m s, sha224Shaped.message_digest m s,
    sha256Shaped.message_digest m s⟩

/-- Settles O41: what is absorbed is whole blocks of 512 counted bits and the buffered bytes, and FINALIZE leaves the sum. -/
theorem lengthCounterCountsTheMessage : Obligations.LengthCounterCountsTheMessage := fun m s =>
  ⟨md5Shaped.absorbed_count m s, md5Shaped.message_len m s, sha1Shaped.absorbed_count m s, sha1Shaped.message_len m s,
    sha224Shaped.absorbed_count m s, sha224Shaped.message_len m s,
    sha256Shaped.absorbed_count m s, sha256Shaped.message_len m s⟩

end Sys2Proof.Machine
end

section
/-! PROOFS. MD5 (44_md5.md): the bytes of its digest (R221, R225), the tables of its steps (R212, R214), and its compression
as a sequence of working variables (R215, R216). -/

namespace Sys2Proof.Machine

/-! The digest bytes -/

/-- In a concatenation of chunks of one length `m`, place `m * k + j` is place `j` of chunk `k`. -/
theorem getElem?_flatMap_of_length {α β : Type} {f : α → List β} {m : Nat} (hf : ∀ a, (f a).length = m) {j : Nat}
    (hj : j < m) (as : List α) (k : Nat) : (as.flatMap f)[m * k + j]? = as[k]?.bind fun a => (f a)[j]? := by
  induction as generalizing k with
  | nil => rfl
  | cons a as ih =>
    rw [List.flatMap_cons]
    cases k with
    | zero =>
      rw [Nat.mul_zero, Nat.zero_add, List.getElem?_append_left (by rwa [hf])]
      rfl
    | succ k =>
      have hbehind : m * (k + 1) + j = m + (m * k + j) := by ring
      rw [hbehind, List.getElem?_append_right (by rw [hf]; omega), hf, Nat.add_sub_cancel_left, ih]
      rfl

theorem wordBytesLE_getElem? (w : Word) (j : Fin 4) : (wordBytesLE w)[j.val]? = some (w.extractLsb' (8 * j.val) 8) := by
  match j with
  | 0 | 1 | 2 | 3 => rfl

theorem digestLE_getD {n words : Nat} (h : Vector Word n) (k : Fin n) (hk : k.val < words) (j : Fin 4) :
    (digestLE words h).getD (4 * k.val + j.val) 0 = h[k.val].extractLsb' (8 * j.val) 8 := by
  have hword : (h.toList.take words)[k.val]? = some h[k.val] := by
    simp [List.getElem?_take_of_lt hk]
  rw [digestLE, List.getD_eq_getElem?_getD, getElem?_flatMap_of_length wordBytesLE_length j.isLt, hword,
    Option.bind_some, wordBytesLE_getElem?, Option.getD_some]

/-- Settles O13: byte `4k+j` of the digest is byte `j` of the four bytes of `H[k]`. -/
theorem rdigOfMd5 : Obligations.RdigOfMd5 := by
  refine fun s => readsDigest_of_digest .md5 ?_
  rintro _ - k j rfl
  exact digestLE_getD s.md5.h k k.isLt j

/-! The steps -/

/-- Settles O53: the two functions are computed on the 64 step numbers. -/
theorem md5StepTables : Obligations.Md5StepTables := ⟨by decide, by decide⟩

section Family

variable {i : Nat} (x y z : Word)

theorem md5Family_ff (h : i < 16) : md5Family i x y z = ((x &&& y) ||| (~~~x &&& z)) := by
  simp only [md5Family, Nat.div_eq_of_lt h]

theorem md5Family_gg (h : 16 ≤ i) (h' : i < 32) : md5Family i x y z = ((x &&& z) ||| (y &&& ~~~z)) := by
  have hrow : i / 16 = 1 := by omega
  simp only [md5Family, hrow]

theorem md5Family_hh (h : 32 ≤ i) (h' : i < 48) : md5Family i x y z = (x ^^^ y ^^^ z) := by
  have hrow : i / 16 = 2 := by omega
  simp only [md5Family, hrow]

theorem md5Family_ii (h : 48 ≤ i) : md5Family i x y z = (y ^^^ (x ||| ~~~z)) := by
  obtain ⟨k, hrow⟩ : ∃ k, i / 16 = k + 3 := ⟨i / 16 - 3, by omega⟩
  simp only [md5Family, hrow]

end Family

theorem messageLE_getElem (b : Block) (k : Fin 16) : (messageLE b)[k] = le32 b k := by
  simp [messageLE]

/-- The working variables before step `i` of the compression of a block (R216). -/
def md5VarsAt (h : Vector Word 4) (b : Block) (i : Nat) : Md5Vars :=
  (List.range i).foldl (md5Step (messageLE b)) (h[0], h[1], h[2], h[3])

theorem md5VarsAt_succ (h : Vector Word 4) (b : Block) (i : Nat) :
    md5VarsAt h b (i + 1) = md5Step (messageLE b) (md5VarsAt h b i) i := by
  rw [md5VarsAt, List.range_succ, List.foldl_append]
  rfl

theorem compressMd5_of_md5VarsAt {h : Vector Word 4} {blk : Block} {a b c d : Word}
    (hv : md5VarsAt h blk 64 = (a, b, c, d)) : compressMd5 h blk = #v[h[0] + a, h[1] + b, h[2] + c, h[3] + d] := by
  have hfold : (List.range Config.md5Steps).foldl (md5Step (messageLE blk)) (h[0], h[1], h[2], h[3]) = (a, b, c, d) := hv
  rw [compressMd5, hfold]

/-- Settles O54: the variables are those of the fold over the step numbers, one step for each. -/
theorem md5CompressionSteps : Obligations.Md5CompressionSteps := by
  refine fun h blk => ⟨md5VarsAt h blk, rfl, fun i _ a b c d hv => ?_, fun _ _ _ _ => compressMd5_of_md5VarsAt⟩
  refine ⟨md5Family i b c d, md5Index i, rfl, md5Family_ff b c d, md5Family_gg b c d, md5Family_hh b c d,
    md5Family_ii b c d, ?_⟩
  rw [md5VarsAt_succ, hv, md5Step, messageLE_getElem, le32]

end Sys2Proof.Machine
end

section
/-! PROOFS. The message schedule of SHA-1 and SHA-2 (45_sha1.md R244; 46_sha2.md R272): its words stay as they are while it
is extended, and each new word is the recurrence on the words before it. The fold over the words and their step numbers, one
step at a time. -/

namespace Sys2Proof.Machine

section Schedule

variable {next : List Word → Word} {n : Nat} {ws : List Word}

/-- Extending by one word more puts the recurrence's word in front. -/
theorem extendSchedule_succ (next : List Word → Word) (n : Nat) (ws : List Word) :
    extendSchedule next (n + 1) ws = next (extendSchedule next n ws) :: extendSchedule next n ws := by
  induction n generalizing ws with
  | zero => rfl
  | succ n ih => exact ih (next ws :: ws)

/-- A schedule is the oldest part of every longer one. -/
theorem extendSchedule_reverse_prefix {m : Nat} (h : m ≤ n) :
    (extendSchedule next m ws).reverse <+: (extendSchedule next n ws).reverse := by
  induction n, h using Nat.le_induction with
  | base => exact List.prefix_rfl
  | succ n _ ih =>
    rw [extendSchedule_succ, List.reverse_cons]
    exact ih.trans (List.prefix_append ..)

/-- Word `i`, the oldest first, of the schedule that extends `ws` by `n` words. -/
def scheduleWord (next : List Word → Word) (n : Nat) (ws : List Word) (i : Nat) : Word :=
  (extendSchedule next n ws).reverse.getD i 0

/-- Extending a schedule keeps its words. -/
theorem scheduleWord_of_le {m i : Nat} (h : m ≤ n) (hi : i < ws.length + m) :
    scheduleWord next n ws i = scheduleWord next m ws i := by
  have hlen : i < (extendSchedule next m ws).reverse.length := by simpa using hi
  obtain ⟨newer, hcut⟩ := extendSchedule_reverse_prefix (next := next) (ws := ws) h
  rw [scheduleWord, scheduleWord, ← hcut, List.getD_append _ _ _ _ hlen]

/-- The word `k` back from the end of a schedule, counted from its start. -/
theorem wordBack_eq_getD_reverse {k : Nat} (hk : 0 < k) (hk' : k ≤ ws.length) :
    wordBack ws k = ws.reverse.getD (ws.length - k) 0 := by
  have hplace : ws.length - 1 - (ws.length - k) = k - 1 := by omega
  rw [wordBack, List.getD_eq_getElem?_getD, List.getD_eq_getElem?_getD, List.getElem?_reverse (by omega), hplace]

/-- A word past the given ones is the recurrence on the words before it. -/
theorem scheduleWord_of_ge {i : Nat} (hi : ws.length ≤ i) (hi' : i < ws.length + n) :
    ∃ before : List Word, scheduleWord next n ws i = next before ∧
      ∀ k, 0 < k → k ≤ i → wordBack before k = scheduleWord next n ws (i - k) := by
  obtain ⟨m, rfl⟩ := Nat.exists_eq_add_of_le hi
  have hlen : (extendSchedule next m ws).length = ws.length + m := extendSchedule_length ..
  refine ⟨extendSchedule next m ws, ?_, fun k hk hk' => ?_⟩
  · rw [scheduleWord_of_le (m := m + 1) (by omega) (by omega), scheduleWord, extendSchedule_succ, List.reverse_cons,
      List.getD_append_right _ _ _ _ (by simp), List.length_reverse, hlen, Nat.sub_self, List.getD_cons_zero]
  · rw [wordBack_eq_getD_reverse hk (by rwa [hlen]), hlen]
    exact (scheduleWord_of_le (by omega) (by omega)).symm

/-- The first sixteen words are the big-endian words of the block. -/
theorem scheduleWord_messageBE (b : Block) (k : Fin 16) :
    scheduleWord next n (messageBE b).toList.reverse k.val = be32 b k := by
  rw [scheduleWord_of_le (Nat.zero_le n) (by simp), scheduleWord, extendSchedule]
  simp [messageBE, List.getD_eq_getElem?_getD]

end Schedule

/-- The fold over the words with their numbers, one word further. -/
theorem foldl_take_zipIdx_succ {β : Type} (step : β → Word × Nat → β) (x : β) {ws : List Word} {i : Nat}
    (h : i < ws.length) :
    (ws.zipIdx.take (i + 1)).foldl step x = step ((ws.zipIdx.take i).foldl step x) (ws.getD i 0, i) := by
  have hword : ws.zipIdx[i]? = some (ws.getD i 0, i) := by
    simp [List.getD_eq_getElem?_getD, h]
  rw [List.take_add_one, hword, List.foldl_append]
  rfl

end Sys2Proof.Machine
end

section
/-! PROOFS. The digest bytes of SHA-1, SHA-224 and SHA-256 (45_sha1.md R251; 46_sha2.md R281, R289) and the compression of
SHA-1 as a schedule and a sequence of working variables (45_sha1.md R242 to R246). -/

namespace Sys2Proof.Machine

/-! The digest bytes -/

theorem wordBytesBE_getElem? (w : Word) (j : Fin 4) :
    (wordBytesBE w)[j.val]? = some (w.extractLsb' (24 - 8 * j.val) 8) := by
  match j with
  | 0 | 1 | 2 | 3 => rfl

theorem digestBE_getD {n words : Nat} (h : Vector Word n) (k : Fin n) (hk : k.val < words) (j : Fin 4) :
    (digestBE words h).getD (4 * k.val + j.val) 0 = h[k.val].extractLsb' (24 - 8 * j.val) 8 := by
  have hword : (h.toList.take words)[k.val]? = some h[k.val] := by
    simp [List.getElem?_take_of_lt hk]
  rw [digestBE, List.getD_eq_getElem?_getD, getElem?_flatMap_of_length wordBytesBE_length j.isLt, hword,
    Option.bind_some, wordBytesBE_getElem?, Option.getD_some]

theorem byteBE_digestBE {n words : Nat} (h : Vector Word n) {i : Nat} (hi : i < 4 * words) :
    Claims.ByteBE h i ((digestBE words h).getD i 0) := by
  rintro k j rfl
  exact digestBE_getD h k (by omega) j

/-- Settles O14: the digest is the first 5, 7 or 8 words of `H`, and byte `4k+j` is byte `j` of `H[k]` from the top down. -/
theorem rdigOfSha : Obligations.RdigOfSha := fun s =>
  ⟨readsDigest_of_digest .sha1 fun _ => byteBE_digestBE (words := 5) s.sha1.h,
    readsDigest_of_digest .sha224 fun _ => byteBE_digestBE (words := 7) s.sha224.h,
    readsDigest_of_digest .sha256 fun _ => byteBE_digestBE (words := 8) s.sha256.h⟩

/-! The schedule -/

/-- `W[i]` of a block's schedule (R244). -/
def sha1Word (b : Block) (i : Nat) : Word := (sha1Schedule b).getD i 0

theorem sha1Word_eq_scheduleWord (b : Block) :
    sha1Word b = scheduleWord sha1NextWord (Config.sha1Steps - 16) (messageBE b).toList.reverse := rfl

theorem sha1Word_of_fin (b : Block) (k : Fin 16) : sha1Word b k.val = be32 b k := scheduleWord_messageBE b k

theorem sha1Word_of_ge (b : Block) {i : Nat} (hi : 16 ≤ i) (hi' : i < 80) :
    sha1Word b i = rotl (sha1Word b (i - 3) ^^^ sha1Word b (i - 8) ^^^ sha1Word b (i - 14) ^^^ sha1Word b (i - 16)) 1 := by
  rw [sha1Word_eq_scheduleWord]
  obtain ⟨before, hnext, hback⟩ := scheduleWord_of_ge (next := sha1NextWord) (n := Config.sha1Steps - 16)
    (ws := (messageBE b).toList.reverse) (i := i) (by simpa using hi) (by simpa [Config.sha1Steps] using hi')
  rw [hnext, sha1NextWord, hback 3 (by omega) (by omega), hback 8 (by omega) (by omega), hback 14 (by omega) (by omega),
    hback 16 (by omega) (by omega)]

/-! The steps -/

section Family

variable {i : Nat} (b c d : Word)

theorem sha1Family_ch (h : i < 20) : sha1Family i b c d = ((b &&& c) ||| (~~~b &&& d)) := by
  simp only [sha1Family, Nat.div_eq_of_lt h]

theorem sha1Family_parity (h : 20 ≤ i) (h' : i < 40) : sha1Family i b c d = (b ^^^ c ^^^ d) := by
  have hrow : i / 20 = 1 := by omega
  simp only [sha1Family, hrow]

theorem sha1Family_maj (h : 40 ≤ i) (h' : i < 60) : sha1Family i b c d = maj b c d := by
  have hrow : i / 20 = 2 := by omega
  simp only [sha1Family, hrow]

theorem sha1Family_parity_of_ge (h : 60 ≤ i) : sha1Family i b c d = (b ^^^ c ^^^ d) := by
  obtain ⟨k, hrow⟩ : ∃ k, i / 20 = k + 3 := ⟨i / 20 - 3, by omega⟩
  simp only [sha1Family, hrow]

end Family

/-- The working variables before step `i` of the compression of a block (R246). -/
def sha1VarsAt (h : Vector Word 5) (b : Block) (i : Nat) : Sha1Vars :=
  ((sha1Schedule b).zipIdx.take i).foldl sha1Step (h[0], h[1], h[2], h[3], h[4])

theorem sha1VarsAt_succ (h : Vector Word 5) (b : Block) {i : Nat} (hi : i < 80) :
    sha1VarsAt h b (i + 1) = sha1Step (sha1VarsAt h b i) (sha1Word b i, i) :=
  foldl_take_zipIdx_succ sha1Step _ (by rwa [sha1Schedule_length])

theorem compressSha1_of_sha1VarsAt {h : Vector Word 5} {blk : Block} {a b c d e : Word}
    (hv : sha1VarsAt h blk 80 = (a, b, c, d, e)) :
    compressSha1 h blk = #v[h[0] + a, h[1] + b, h[2] + c, h[3] + d, h[4] + e] := by
  rw [sha1VarsAt, List.take_of_length_le (by simp)] at hv
  rw [compressSha1, hv]

/-- Settles O55: the words are those of the model's schedule, and the variables those of the fold over its words with their
step numbers, one step for each. -/
theorem sha1Compression : Obligations.Sha1Compression := by
  refine fun h blk => ⟨sha1Word blk, sha1VarsAt h blk, sha1Word_of_fin blk, fun _ => sha1Word_of_ge blk, rfl,
    fun i hi a b c d e hv => ?_, fun _ _ _ _ _ => compressSha1_of_sha1VarsAt⟩
  refine ⟨sha1Family i b c d, sha1Family_ch b c d, sha1Family_parity b c d, sha1Family_maj b c d,
    sha1Family_parity_of_ge b c d, ?_⟩
  rw [sha1VarsAt_succ h blk hi, hv, sha1Step]

end Sys2Proof.Machine
end

section
/-! PROOFS. The compression of SHA-2, the one core of SHA-224 and SHA-256, as a schedule and a sequence of working variables
(46_sha2.md R272, R274, R276). -/

namespace Sys2Proof.Machine

/-! The schedule -/

/-- `W[i]` of a block's schedule (R272). -/
def sha2Word (b : Block) (i : Nat) : Word := (sha2Schedule b).getD i 0

theorem sha2Word_eq_scheduleWord (b : Block) :
    sha2Word b = scheduleWord sha2NextWord (Config.sha2Steps - 16) (messageBE b).toList.reverse := rfl

theorem sha2Word_of_fin (b : Block) (k : Fin 16) : sha2Word b k.val = be32 b k := scheduleWord_messageBE b k

theorem sha2Word_of_ge (b : Block) {i : Nat} (hi : 16 ≤ i) (hi' : i < 64) :
    sha2Word b i = smallSigma1 (sha2Word b (i - 2)) + sha2Word b (i - 7) + smallSigma0 (sha2Word b (i - 15)) +
      sha2Word b (i - 16) := by
  rw [sha2Word_eq_scheduleWord]
  obtain ⟨before, hnext, hback⟩ := scheduleWord_of_ge (next := sha2NextWord) (n := Config.sha2Steps - 16)
    (ws := (messageBE b).toList.reverse) (i := i) (by simpa using hi) (by simpa [Config.sha2Steps] using hi')
  rw [hnext, sha2NextWord, hback 2 (by omega) (by omega), hback 7 (by omega) (by omega), hback 15 (by omega) (by omega),
    hback 16 (by omega) (by omega)]

/-! The steps -/

/-- The working variables before step `i` of the compression of a block (R276). -/
def sha2VarsAt (hs : Vector Word 8) (b : Block) (i : Nat) : Sha2Vars :=
  ((sha2Schedule b).zipIdx.take i).foldl sha2Step (hs[0], hs[1], hs[2], hs[3], hs[4], hs[5], hs[6], hs[7])

theorem sha2VarsAt_succ (hs : Vector Word 8) (b : Block) {i : Nat} (hi : i < 64) :
    sha2VarsAt hs b (i + 1) = sha2Step (sha2VarsAt hs b i) (sha2Word b i, i) :=
  foldl_take_zipIdx_succ sha2Step _ (by rwa [sha2Schedule_length])

/-- The result adds the variables after the last step to the state, word by word. -/
theorem compressSha2_of_sha2VarsAt {hs : Vector Word 8} {blk : Block} {a b c d e f g h : Word}
    (hv : sha2VarsAt hs blk 64 = (a, b, c, d, e, f, g, h)) :
    compressSha2 hs blk =
      #v[hs[0] + a, hs[1] + b, hs[2] + c, hs[3] + d, hs[4] + e, hs[5] + f, hs[6] + g, hs[7] + h] := by
  rw [sha2VarsAt, List.take_of_length_le (by simp)] at hv
  rw [compressSha2, hv]

/-- Settles O56: the words are those of the model's schedule, and the variables those of the fold over its words with their
step numbers, one step for each. -/
theorem sha2Compression : Obligations.Sha2Compression := by
  refine fun hs blk => ⟨sha2Word blk, sha2VarsAt hs blk, sha2Word_of_fin blk, fun _ => sha2Word_of_ge blk, rfl,
    fun i hi a b c d e f g h hv => ?_, fun _ _ _ _ _ _ _ _ => compressSha2_of_sha2VarsAt⟩
  refine ⟨_, _, rfl, rfl, ?_⟩
  rw [sha2VarsAt_succ hs blk hi, hv, sha2Step]

end Sys2Proof.Machine
end

section
/-! PROOFS. The status read, the faults and the independence of the engines (47_status.md R295 to R299; 60_exceptions.md
R300 to R311): a fault writes what R300 says of it, no word and no edge stops the core, and what a command leaves in the
context of its engine depends on that context alone. -/

namespace Sys2Proof.Machine

open Sys2Proof.Claims

variable {e : Engine} {i : Instr} {s s' t t' : State}

/-! The context of one engine in two states -/

namespace SameContext

theorem symm (h : SameContext e s t) : SameContext e t s := by
  cases e <;> exact Eq.symm h

theorem trans {u : State} (h : SameContext e s t) (h' : SameContext e t u) : SameContext e s u := by
  cases e <;> exact Eq.trans h' h

theorem digest_eq (h : SameContext e s t) : t.digest e = s.digest e := by
  cases e <;> (dsimp only [SameContext] at h; simp only [State.digest, h])

/-- The checks of a command read the context of its own engine alone (60_exceptions.md R302 to R304). -/
theorem faultOf_eq (h : SameContext i.engine s s') : faultOf i s' = faultOf i s := by
  simp only [faultOf, h.done_eq]

/-- INIT reads nothing. -/
theorem init (e : Engine) (d : Byte) (s s' : State) :
    SameContext e (effectOf (Instr.of e .init d) s) (effectOf (Instr.of e .init d) s') := by
  cases e <;> rfl

/-- What a command's own effect leaves in the context of its engine is read from that context alone (47_status.md R297). -/
theorem effectOf (hcmd : i.engine = e) (h : SameContext e s s') : SameContext e (effectOf i s) (effectOf i s') := by
  subst hcmd
  cases i with
  | djb2Init | md2Init | md5Init | sha1Init | sha224Init | sha256Init => rfl
  | djb2Absorb b => exact congrArg (fun c : Djb2Ctx => { c with h := djb2Step c.h b }) h
  | djb2Finalize => exact congrArg (fun c : Djb2Ctx => { c with done := true }) h
  | md2Absorb b => exact congrArg (md2Absorb b) h
  | md2Finalize => exact congrArg md2Finalize h
  | md5Absorb b | sha1Absorb b | sha224Absorb b | sha256Absorb b => exact congrArg (mdAbsorb _ b) h
  | md5Finalize | sha1Finalize | sha224Finalize | sha256Finalize => exact congrArg (mdFinalize _ _) h
  | djb2Rdig k | md2Rdig k | md5Rdig k | sha1Rdig k | sha224Rdig k | sha256Rdig k => exact h
  | djb2Rstat | md2Rstat | md5Rstat | sha1Rstat | sha224Rstat | sha256Rstat => exact h

theorem absorbAll (h : SameContext e s s') (bs : List Byte) : SameContext e (s.absorbAll e bs) (s'.absorbAll e bs) := by
  induction bs generalizing s s' with
  | nil => exact h
  | cons b bs ih => exact ih (h.effectOf (Instr.engine_of e .absorb b))

end SameContext

/-- A message starts from the initial context, whatever stood there before (47_status.md R299). -/
theorem sameContext_afterMessage (e : Engine) (m : List Byte) (s s' : State) :
    SameContext e (s.afterMessage e m) (s'.afterMessage e m) :=
  ((SameContext.init e 0 s s').absorbAll m).effectOf (Instr.engine_of e .finalize 0)

/-! The interleaving of commands -/

theorem exec_sameContext_of_ne (hne : e ≠ i.engine) (h : exec i s = .next t) : SameContext e s t := by
  obtain ⟨-, hothers, -⟩ := frameOfEveryCommand i s t h
  exact hothers e hne

/-- In two states with the same context of its engine a command ends the same way. -/
theorem exec_cases_of_sameContext (hctx : SameContext i.engine s s') (h : exec i s = .next t)
    (h' : exec i s' = .next t') :
    (∃ k, t = takeFault k (encode i) s ∧ t' = takeFault k (encode i) s') ∨ (t = effectOf i s ∧ t' = effectOf i s') := by
  obtain ⟨k, hf, ht⟩ | ⟨hf, ht⟩ := exec_cases h
  · rw [exec_fault (hctx.faultOf_eq.trans hf), Host.Outcome.next.injEq] at h'
    exact .inl ⟨k, ht, h'.symm⟩
  · rw [exec_effect (hctx.faultOf_eq.trans hf), Host.Outcome.next.injEq] at h'
    exact .inr ⟨ht, h'.symm⟩

/-- A command leads two states with the same context of its engine to two such states. -/
theorem exec_sameContext_of_engine (hctx : SameContext i.engine s s') (h : exec i s = .next t)
    (h' : exec i s' = .next t') : SameContext i.engine t t' := by
  obtain ⟨k, rfl, rfl⟩ | ⟨rfl, rfl⟩ := exec_cases_of_sameContext hctx h h'
  · exact ((sameContexts_takeFault k _ s _).symm.trans hctx).trans (sameContexts_takeFault k _ s' _)
  · exact hctx.effectOf rfl

/-- The commands of other engines do nothing for the context of `e` (47_status.md R297). -/
theorem execAll_filter_sameContext (is : List Instr) (hctx : SameContext e s s') :
    ∃ t t', execAll is s = .next t ∧ execAll (is.filter fun i => decide (i.engine = e)) s' = .next t' ∧
      SameContext e t t' := by
  induction is generalizing s s' with
  | nil => exact ⟨s, s', rfl, rfl, hctx⟩
  | cons i is ih =>
    obtain ⟨u, hu⟩ := exists_exec_next i s
    rw [execAll_cons_of_exec hu]
    by_cases he : i.engine = e
    · obtain ⟨u', hu'⟩ := exists_exec_next i s'
      rw [List.filter_cons_of_pos (by simpa using he), execAll_cons_of_exec hu']
      subst he
      exact ih (exec_sameContext_of_engine hctx hu hu')
    · rw [List.filter_cons_of_neg (by simpa using he)]
      exact ih ((exec_sameContext_of_ne (Ne.symm he) hu).symm.trans hctx)

/-- What a command's own effect leaves in `RSPQ` is read from the context of its engine, `ERR` and `RSPQ`. -/
theorem effectOf_rspq_eq_of_sameContext (hctx : SameContext i.engine s s') (herr : s'.err = s.err)
    (hrspq : s'.rspq = s.rspq) : (effectOf i s').rspq = (effectOf i s).rspq := by
  obtain ⟨hop, -⟩ | ⟨hop, -⟩ := effectOf_cases i s
  · rcases hop with hop | hop
    · simp [effectOf_of_rdig hop, hctx.digest_eq]
    · simp [effectOf_of_rstat hop, status, herr, hctx.done_eq]
  · rw [(effectOf_of_write hop s').rspq_eq, (effectOf_of_write hop s).rspq_eq, hrspq]

/-- Two states with the same context of a command's engine and the same registers are led to the same registers. -/
theorem exec_sameRegisters (hctx : SameContext i.engine s s') (hfaults : SameFaults s s') (hrspq : s'.rspq = s.rspq)
    (h : exec i s = .next t) (h' : exec i s' = .next t') : SameFaults t t' ∧ t'.rspq = t.rspq := by
  obtain ⟨herr, hcmd⟩ := hfaults
  obtain ⟨k, rfl, rfl⟩ | ⟨rfl, rfl⟩ := exec_cases_of_sameContext hctx h h'
  · simp [SameFaults, herr, hcmd, hrspq]
  · obtain ⟨hs, hs'⟩ := effectOf_sameFaults i s
    obtain ⟨ht, ht'⟩ := effectOf_sameFaults i s'
    exact ⟨⟨by rw [hs, ht, herr], by rw [hs', ht', hcmd]⟩, effectOf_rspq_eq_of_sameContext hctx herr hrspq⟩

/-- Settles O22: another engine's command keeps the context, and its own reads no other. -/
theorem engineIsolation : Obligations.EngineIsolation := by
  refine ⟨fun _ _ _ _ hne h => exec_sameContext_of_ne hne h, fun is _ _ _ hctx => execAll_filter_sameContext is hctx,
    fun i s s' hctx hfaults hrspq => ?_⟩
  obtain ⟨t, ht⟩ := exists_exec_next i s
  obtain ⟨t', ht'⟩ := exists_exec_next i s'
  exact ⟨t, t', ht, ht', exec_sameContext_of_engine hctx ht ht', exec_sameRegisters hctx hfaults hrspq ht ht'⟩

/-! The digest of a message -/

theorem State.afterMessage_done (s : State) (e : Engine) (m : List Byte) : (s.afterMessage e m).done e = true := by
  rw [State.afterMessage]
  simpa only [Instr.engine_of, Instr.op_of] using
    effectOf_done_engine (Instr.of e .finalize 0) ((effectOf (Instr.of e .init 0) s).absorbAll e m)

/-- RDIG of a finalized engine completes exactly for the indices of the digest (60_exceptions.md R304). -/
theorem exec_rdig_of_done (hd : s.done e = true) (k : Byte) :
    ∃ u, exec (Instr.of e .rdig k) s = .next u ∧
      ((∃ d, u.rspq = some { data := d, err := false }) ↔ k.toNat < digestLength e) := by
  by_cases hk : k.toNat < digestLength e
  · have hf : faultOf (Instr.of e .rdig k) s = none := by rw [faultOf_rdig, hd, rdigFault_of_lt hk]
    refine ⟨_, exec_effect hf, iff_of_true ?_ hk⟩
    rw [effectOf_of_rdig (Instr.op_of ..)]
    exact ⟨_, rfl⟩
  · have hf : faultOf (Instr.of e .rdig k) s = some .range := by
      rw [faultOf_rdig, hd, rdigFault_of_le (Nat.not_lt.mp hk)]
    refine ⟨_, exec_fault hf, iff_of_false ?_ hk⟩
    simp [responds_encode, Instr.op_of]

/-- Settles O43: INIT forgets the state before, and FINALIZE leaves an engine whose digest is read up to its length. -/
theorem hashIsAFunctionOfTheMessage : Obligations.HashIsAFunctionOfTheMessage := fun e m s s' =>
  ⟨_, _, execAll_messageProgram e m s, execAll_messageProgram e m s', sameContext_afterMessage e m s s',
    exec_rdig_of_done (s.afterMessage_done e m)⟩

/-! The status byte -/

/-- The bits of the status byte (47_status.md R295). -/
theorem isStatus_status (s : State) (e : Engine) : IsStatus s e (status s e) := by
  have bits (k : Nat) : (status s e).getLsbD k =
      if k < 1 then (BitVec.ofBool (s.done e)).getLsbD k
      else if k - 1 < 4 then s.err.getLsbD (k - 1) else (0#3).getLsbD (k - 1 - 4) := by
    rw [status, BitVec.getLsbD_append, BitVec.getLsbD_append]
  exact ⟨(bits 0).trans (by simp), fun k hk => (bits (k + 1)).trans (by simp [hk]), bits 5, bits 6, bits 7⟩

/-- RSTAT is unchecked and answers the status byte (47_status.md R296). -/
theorem exec_rstat (hop : i.op = .rstat) (s : State) :
    ∃ d, IsStatus s i.engine d ∧ exec i s = .next { s with rspq := some { data := d, err := false } } := by
  refine ⟨status s i.engine, isStatus_status s i.engine, ?_⟩
  rw [exec_effect (faultOf_of_unchecked (.inr (.inl hop)) s), effectOf_of_rstat hop]
  rfl

/-- Settles O15: the six reads answer their status bytes, and an illegal word takes Illegal whatever its shape. -/
theorem rstatResults : Obligations.RstatResults :=
  ⟨by decide, fun s => ⟨fun w _ hw => ⟨_, runWord_of_not_legal hw s, faulted_takeFault .illegal w s⟩,
    exec_rstat (i := .djb2Rstat) rfl s, exec_rstat (i := .md2Rstat) rfl s, exec_rstat (i := .md5Rstat) rfl s,
    exec_rstat (i := .sha1Rstat) rfl s, exec_rstat (i := .sha224Rstat) rfl s, exec_rstat (i := .sha256Rstat) rfl s⟩⟩

/-! Faults -/

/-- Settles O16: each kind writes what R300 says under its own code, and a fault leaves `ERR` not 0. -/
theorem faultEntry : Obligations.FaultEntry := fun w s =>
  ⟨faulted_takeFault .illegal w s, faulted_takeFault .spent w s, faulted_takeFault .notDone w s,
    faulted_takeFault .range w s, fun k => decide_eq_true ((takeFault_err k w s).symm ▸ setErrBit_ne_zero k s.err)⟩

/-- Settles O17: the word takes its first fault, or its command's own effect keeps `ERR` and `ERRCMD`. -/
theorem faultPriority : Obligations.FaultPriority := by
  intro w s
  obtain ⟨t, ht⟩ := exists_runWord_next w s
  refine ⟨t, ht, ?_⟩
  obtain ⟨k, hf, rfl⟩ | ⟨hf, i, -, rfl⟩ := runWord_cases_firstFault ht
  · rw [hf]
    exact faulted_takeFault k w s
  · rw [hf]
    exact effectOf_sameFaults i s

theorem exists_accept_next (w : CmdWord) (s : State) : ∃ t, accept w s = .next t := by
  rcases Nat.lt_or_ge 1 (edgesOf w s) with hmore | hone
  · exact ⟨_, accept_more hmore⟩
  · rw [accept_one hone]
    exact exists_runWord_next w s

theorem exists_continueRunning_next (r : Running) (s : State) : ∃ t, continueRunning r s = .next t := by
  rcases Nat.lt_or_ge 1 r.left with hmore | hlast
  · exact ⟨_, continueRunning_more hmore⟩
  · rw [continueRunning_last hlast]
    exact exists_runWord_next r.word _

/-- Each of the six cases of an edge answers a next state. -/
theorem exists_edge_next (p : PortIn) (s : State) : ∃ t, edge p s = .next t := by
  cases hr : p.rst with
  | true => exact ⟨_, edge_reset hr⟩
  | false =>
  cases hs : s.settling with
  | true => exact ⟨_, edge_settling hr hs⟩
  | false =>
  cases hn : s.running with
  | some r =>
    rw [edge_running hr hs hn]
    exact exists_continueRunning_next r s
  | none =>
  cases hq : s.rspq with
  | some q => exact ⟨_, edge_full hr hs hn hq⟩
  | none =>
  cases hv : p.cmdValid with
  | false => exact ⟨_, edge_idle hr hs hn hq hv⟩
  | true =>
    rw [edge_accept hr hs hn hq hv]
    exact exists_accept_next p.cmd s

/-- Settles O35: a step is an edge. -/
theorem noStepStops : Obligations.NoStepStops :=
  fun s => exists_edge_next s.nextIn s.advance

end Sys2Proof.Machine
end

section
/-! PROOFS. Reset and hazards (70_reset_and_hazards.md): the edges under reset and the settling edge after it (R330, R331), a
command of several edges (R340, R345), a response held (R341), and a message of 2^24 bytes (R346). -/

namespace Sys2Proof.Machine

variable {s : State}

/-- Settles O32: an edge with `rst = 1` is the reset edge, and the first one without it is the settling edge. -/
theorem settlingEdge : Obligations.SettlingEdge :=
  ⟨fun _ _ hrst => ⟨rfl, rfl, edge_reset hrst⟩, fun _ _ hrst => ⟨edge_settling hrst rfl, ⟨rfl, rfl, rfl⟩, rfl⟩⟩

/-! A command of several edges -/

/-- The ready core `s` with the word `w` in execution for `left` more edges, on which the host drives `ps`. -/
def State.executing (s : State) (w : CmdWord) (left : Nat) (ps : List PortIn) : State :=
  (s.setRunning (some { word := w, left := left })).setPort ps

theorem steps_one (s : State) : steps 1 s = step s := by
  rw [steps]
  cases step s <;> rfl

section Executing

variable {w : CmdWord} {p : PortIn} {ps rest : List PortIn}

/-- An edge that is not the last one only counts (R340). -/
theorem step_executing_more (hset : s.settling = false) (hrst : p.rst = false) (n : Nat) (ps : List PortIn) :
    step (s.executing w (n + 2) (p :: ps)) = .next (s.executing w (n + 1) ps) :=
  calc step (s.executing w (n + 2) (p :: ps))
    _ = edge p (s.executing w (n + 2) ps) := step_of_port rfl
    _ = continueRunning { word := w, left := n + 2 } (s.executing w (n + 2) ps) := edge_running hrst hset rfl
    _ = .next (s.executing w (n + 1) ps) := continueRunning_more (by simp)

/-- The last edge is the run of the word (R340). -/
theorem step_executing_last (hset : s.settling = false) (hrun : s.running = none) (hrst : p.rst = false)
    (ps : List PortIn) : step (s.executing w 1 (p :: ps)) = runWord w (s.setPort ps) := by
  have hs : (s.executing w 1 ps).setRunning none = s.setPort ps := by
    rw [← hrun]
    rfl
  calc step (s.executing w 1 (p :: ps))
    _ = edge p (s.executing w 1 ps) := step_of_port rfl
    _ = continueRunning { word := w, left := 1 } (s.executing w 1 ps) := edge_running hrst hset rfl
    _ = runWord w (s.setPort ps) := by rw [continueRunning_last le_rfl, hs]

/-- A command in execution through the rest of its edges: it runs on the last one, and until then only its count changes. -/
theorem steps_executing (hset : s.settling = false) (hrun : s.running = none) (hrst : ∀ q ∈ p :: ps, q.rst = false) :
    steps (ps.length + 1) (s.executing w (ps.length + 1) (p :: ps ++ rest)) = runWord w (s.setPort rest) ∧
      ∀ k ≤ ps.length, ∃ left qs,
        steps k (s.executing w (ps.length + 1) (p :: ps ++ rest)) = .next (s.executing w left qs) := by
  obtain ⟨hp, hps⟩ := List.forall_mem_cons.mp hrst
  induction ps generalizing p with
  | nil =>
    refine ⟨(steps_one _).trans (step_executing_last hset hrun hp rest), fun k hk => ⟨1, p :: rest, ?_⟩⟩
    rw [Nat.le_zero.mp hk]
    rfl
  | cons q qs ih =>
    obtain ⟨hq, hqs⟩ := List.forall_mem_cons.mp hps
    obtain ⟨hlast, hbetween⟩ := ih hps hq hqs
    have hstep : step (s.executing w (qs.length + 2) (p :: (q :: qs ++ rest))) = _ :=
      step_executing_more hset hp qs.length (q :: qs ++ rest)
    refine ⟨(steps_succ_of_step hstep _).trans hlast, fun k hk => ?_⟩
    cases k with
    | zero => exact ⟨_, _, rfl⟩
    | succ k =>
      obtain ⟨left, qs', h⟩ := hbetween k (Nat.le_of_succ_le_succ hk)
      exact ⟨left, qs', (steps_succ_of_step hstep k).trans h⟩

end Executing

/-- Settles O27: the presenting edge runs a command of one edge, and puts one of more edges in execution for the others. -/
theorem commandTakesItsEdges : Obligations.CommandTakesItsEdges := by
  intro s w p ps rest ⟨hset, hrun, hrspq⟩ hport ⟨hp, hvalid, hcmd⟩ hps hedges
  have hstep : step s = accept w (s.setPort (ps ++ rest)) := by
    rw [step_of_port (rest := ps ++ rest) hport, edge_accept (s := s.setPort (ps ++ rest)) hp hset hrun hrspq hvalid, hcmd]
  cases ps with
  | nil =>
    have hone : edgesOf w (s.setPort rest) ≤ 1 := by
      rw [edgesOf_setPort]
      simp only [List.length_nil] at hedges
      omega
    refine ⟨(steps_one s).trans (hstep.trans (accept_one hone)), fun k hk hk' => ?_⟩
    exact absurd (hk.trans hk') (by simp)
  | cons q qs =>
    have hleft : edgesOf w (s.setPort (q :: qs ++ rest)) = qs.length + 2 := by
      rw [edgesOf_setPort]
      simp only [List.length_cons] at hedges
      omega
    have haccept : step s = .next (s.executing w (qs.length + 1) (q :: qs ++ rest)) := by
      rw [hstep, accept_more (by omega), hleft]
      rfl
    obtain ⟨hlast, hbetween⟩ := steps_executing (w := w) (rest := rest) hset hrun hps
    refine ⟨(steps_succ_of_step haccept _).trans hlast, fun k hk hk' => ?_⟩
    obtain ⟨k, rfl⟩ := Nat.exists_eq_add_of_le' hk
    obtain ⟨left, ps', h⟩ := hbetween k (Nat.le_of_succ_le_succ hk')
    exact ⟨_, (steps_succ_of_step haccept k).trans h, by simp [cmdReady, State.executing],
      fun e => by cases e <;> rfl, ⟨rfl, rfl⟩, hrspq⟩

/-! A response held -/

/-- With a response held the core neither settles nor executes (10_state.md R32). -/
theorem State.Inv.idle_of_response {r : Response} (h : s.Inv) (hq : s.rspq = some r) :
    s.settling = false ∧ s.running = none := by
  constructor
  · refine Bool.eq_false_iff.mpr fun hs => ?_
    have hnone : s.rspq = none := by rw [h.settling_reset hs]; rfl
    cases hq.symm.trans hnone
  · refine Option.eq_none_iff_forall_not_mem.mpr fun r' hr => ?_
    obtain ⟨-, hnone⟩ := h.running_alone r' hr
    cases hq.symm.trans hnone

/-- Settles O29: the step is the edge of an idle core with `RSPQ` full. -/
theorem heldResponseIsNeverLost : Obligations.HeldResponseIsNeverLost := by
  intro s r hinv hq hrst
  obtain ⟨hset, hrun⟩ := hinv.idle_of_response hq
  exact ⟨by simp [cmdReady, hq], edge_full (s := s.advance) hrst hset hrun hq⟩

/-! A long message -/

theorem Md2Ctx.HasAbsorbed.fill_eq {c : Md2Ctx} {m : List Byte} (h : c.HasAbsorbed m) : c.fill.val = m.length % 16 := by
  obtain ⟨blocks, rfl, -, -⟩ := h
  rw [List.length_append, md2Bytes_length, List.length_take, Vector.length_toList]
  omega

theorem md2_absorbed_2_pow_24 {bs : List Byte} (hlen : bs.length = 2 ^ 24) (s : State) :
    ∃ t, execAll ([Instr.of .md2 .init 0] ++ absorbsProgram .md2 bs) s = .next t ∧ t.md2.fill = 0 := by
  have h := State.absorbAll_md2_hasAbsorbed (s := effectOf (Instr.of .md2 .init 0) s) .init bs
  exact ⟨_, execAll_init_absorbsProgram .md2 bs s, Fin.ext (by rw [h.fill_eq, List.nil_append, hlen]; rfl)⟩

/-- 2^24 bytes are 2^18 whole blocks of 512 bits (R346). -/
theorem MdShaped.absorbed_2_pow_24 {n : Nat} {e : Engine} {ctx : State → MdCtx n} {set : State → MdCtx n → State}
    {iv : Vector Word n} {compress : Vector Word n → Block → Vector Word n} {putLen : Block → BitCount → Block}
    {trailer : BitCount → Nat → Byte} (shape : MdShaped e ctx set iv compress putLen trailer) {bs : List Byte}
    (hlen : bs.length = 2 ^ 24) (s : State) :
    ∃ t, execAll ([Instr.of e .init 0] ++ absorbsProgram e bs) s = .next t ∧ (ctx t).fill = 0 ∧
      (ctx t).len = 0x0000000008000000 := by
  obtain ⟨t, ht, -, hfill, hcount, -⟩ := shape.absorbed_count bs s
  rw [hlen] at hfill hcount
  exact ⟨t, ht, Fin.ext hfill, hcount⟩

/-- Settles O42: the ABSORBs complete, and 2^24 is a whole number of blocks on every engine. -/
theorem sixteenMebibytesDoNotOverrun : Obligations.SixteenMebibytesDoNotOverrun := fun _ s hlen =>
  ⟨md2_absorbed_2_pow_24 hlen s, md5Shaped.absorbed_2_pow_24 hlen s, sha1Shaped.absorbed_2_pow_24 hlen s,
    sha224Shaped.absorbed_2_pow_24 hlen s, sha256Shaped.absorbed_2_pow_24 hlen s⟩

end Sys2Proof.Machine
end
